-- ==== Sys2Proof/Word.lean ====
section
/-! DEFINITION. The word types of the core: an 8-bit data width and a 16-bit address width
(spec/00_scope.md R6). -/

namespace Sys2Proof

/-- A byte: the width of a register and of one bus access (00_scope.md R6). -/
abbrev Byte := BitVec 8

/-- A 16-bit word: an address, a register pair, SP or PC (00_scope.md R6). -/
abbrev Word := BitVec 16

end Sys2Proof
end

