-- ==== Sys2Proof/Machine/Bits.lean ====
section
/-! DEFINITION. Bit-field, byte-order and sign-extension helpers (spec/00_scope.md R8). -/

namespace Sys2Proof

/-- `{hi, lo}` of two bytes: the high byte first (00_scope.md R8, 10_state.md R31). -/
def word (hi lo : Byte) : Word := hi ++ lo

/-- `w[15:8]`. -/
def hiByte (w : Word) : Byte := w.extractLsb' 8 8

/-- `w[7:0]`. -/
def loByte (w : Word) : Byte := w.extractLsb' 0 8

/-- `sext_16(e)`: widen an 8-bit two's complement value by copying bit 7 (00_scope.md R8). -/
def sext16 (e : Byte) : Word := e.signExtend 16

/-- `zext_16(v)` (00_scope.md R8). -/
def zext16 (v : Byte) : Word := v.setWidth 16

/-- `v[i]` of a byte, as a truth value. -/
def bit (v : Byte) (i : Nat) : Bool := v.getLsbD i

/-- `v[i]` of a byte, as the number 0 or 1. -/
def bitNat (v : Byte) (i : Nat) : Nat := (v.getLsbD i).toNat

/-- A truth value as a byte 0 or 1. -/
def boolByte (b : Bool) : Byte := (BitVec.ofBool b).setWidth 8

/-- `0xFF00 | n`: the high page address of the LDH forms (30_encoding.md R178). -/
def highPage (n : Byte) : Word := 0xFF00 ||| zext16 n

end Sys2Proof
end

