-- ==== Sys2Proof/Config.lean ====
section
/-! DEFINITION. The parameters of spec/00_scope.md R7: what the source leaves to the implementation or to
the host. They are plain data, held in the machine's State and changed by no step (log entry 1), so a
claim about every state is a claim for every value of every parameter. -/

namespace Sys2Proof

/-- A memory image: address and byte pairs, addresses strictly rising, no byte listed that an unlisted
address reads as (0x00, log entry 4). -/
abbrev Memory := List Host.Cell

/-- ACCESS_TICK_PHASE: whether an access's tick comes before or after its data transfer
(20_memory.md R105, 92_eei_decisions.md D2). -/
inductive TickPhase where
  | tickBefore
  | tickAfter
  deriving DecidableEq, Repr

/-- MAPPER: the cartridge's bank controller. There is no other: an unknown one is refused before the run
(20_memory.md R140). -/
inductive Mapper where
  | noMapper
  | variantA
  | variantB
  deriving DecidableEq, Repr

/-- The host's input from tick `start` on: the two 4-bit masks its polls answer, 0 = pressed
(61_timer_dma_joypad.md R470, R472; log entry 7). -/
structure InputSpan where
  start   : Nat
  dpad    : BitVec 4
  buttons : BitVec 4
  deriving DecidableEq, Repr

/-- The open parameters of 00_scope.md R7. -/
structure Config where
  /-- ACCESS_TICK_PHASE. -/
  phase : TickPhase
  /-- MAPPER. -/
  mapper : Mapper
  /-- ROM_SIZE is `2 ^ (15 + romSizeExp)`: a power of two, at least 0x8000 (20_memory.md R141). -/
  romSizeExp : Nat
  /-- CART_ROM. -/
  cartRom : Memory
  /-- CART_RAM_SIZE: 0 (`none`) or `2 ^ (11 + e)` bytes (00_scope.md R7). -/
  ramSizeExp : Option Nat
  /-- BOOT_ROM. -/
  bootRom : Memory
  /-- SAMPLE_PERIOD (63_audio.md R612). -/
  samplePeriod : Nat
  /-- MIX: `f l` for the levels `l = 1 .. 15`, with `f 0 = 0` (63_audio.md R611). -/
  mixTable : List (BitVec 16)
  /-- The host's input draws, latest span whose start has come wins; before the first, nothing is pressed. -/
  input : List InputSpan
  deriving DecidableEq, Repr

/-- The parameter values State.reset has: the spec's defaults where it gives one (SAMPLE_PERIOD 1, MIX
`256 × l`), else the choices of log entries 2, 5 and 7. -/
def Config.default : Config where
  phase := .tickAfter
  mapper := .noMapper
  romSizeExp := 0
  cartRom := []
  ramSizeExp := none
  bootRom := []
  samplePeriod := 1
  mixTable := [256, 512, 768, 1024, 1280, 1536, 1792, 2048, 2304, 2560, 2816, 3072, 3328, 3584, 3840]
  input := []

/-- The power-on contents the spec leaves to parameters: RESET_REGS (10_state.md R47), INIT_RAM
(10_state.md R52) and the initial bytes of CART_RAM (20_memory.md R141). -/
structure PowerOn where
  a : Byte
  f : Byte
  b : Byte
  c : Byte
  d : Byte
  e : Byte
  h : Byte
  l : Byte
  sp : Word
  vram : Memory
  wram : Memory
  oam : Memory
  hram : Memory
  cartRam : Memory
  deriving DecidableEq, Repr

/-- The spec's defaults: RESET_REGS all zero (92_eei_decisions.md D41), INIT_RAM every byte 0x00 (D42);
CART_RAM every byte 0x00 (log entry 5). -/
def PowerOn.default : PowerOn where
  a := 0
  f := 0
  b := 0
  c := 0
  d := 0
  e := 0
  h := 0
  l := 0
  sp := 0
  vram := []
  wram := []
  oam := []
  hram := []
  cartRam := []

end Sys2Proof
end

