-- ==== Sys2Proof/Machine/State.lean ====
section
/-! DEFINITION. The machine's state as plain data: every piece of state of spec/10_state.md, the parameters
of spec/00_scope.md R7, the calls made to the host's sinks, and the state right after power-on reset. -/

namespace Sys2Proof.Machine

/-- Why a step could fault: there is no reason. The bus never faults (20_memory.md R107) and the core
raises no synchronous exception (60_exceptions.md R424); the lock is a state, not a fault (R425). -/
inductive Fault where
  deriving DecidableEq, Repr

/-- Why a step could be refused. -/
inductive Refusal where
  /-- Raised by an arm of exec whose instruction has no meaning yet; safe. No arm raises it. -/
  | notModelled (mnemonic : String)
  deriving DecidableEq, Repr

/-- The CPU's registers and execution state (10_state.md R30 to R43). -/
structure Cpu where
  a : Byte
  f : Byte
  b : Byte
  c : Byte
  d : Byte
  e : Byte
  h : Byte
  l : Byte
  sp : Word
  pc : Word
  ime : Bool
  imePending : Bool
  halted : Bool
  locked : Bool
  deriving DecidableEq, Repr

/-- The bank controller's registers (10_state.md R51, 20_memory.md R143, R146). Variant A uses the first
four, Variant B `ramEnable`, `romBank` and `ramBank`, no mapper none. -/
structure Cart where
  ramEnable : Bool
  bankLow : BitVec 5
  bankHigh : BitVec 2
  mode : Bool
  romBank : BitVec 9
  ramBank : BitVec 4
  deriving DecidableEq, Repr

/-- Divider and timer (61_timer_dma_joypad.md R451 to R454). -/
structure Timer where
  div16 : BitVec 16
  tima : Byte
  tma : Byte
  tac : BitVec 3
  prev : Bool
  deriving DecidableEq, Repr

/-- The OAM DMA engine (61_timer_dma_joypad.md R460, R461). A queue stage is `some page` when its valid
bit is set. -/
structure Dma where
  q1 : Option Byte
  q2 : Option Byte
  active : Bool
  src : Word
  idx : Nat
  reg : Byte
  deriving DecidableEq, Repr

/-- The joypad latch (61_timer_dma_joypad.md R470). -/
structure Joypad where
  sel : BitVec 2
  lines : BitVec 4
  deriving DecidableEq, Repr

/-- The serial stub (61_timer_dma_joypad.md R474). -/
structure Serial where
  sb : Byte
  sc : Byte
  deriving DecidableEq, Repr

/-- The video unit's mode (62_video.md R501). -/
inductive VideoMode where
  | hblank
  | vblank
  | oamScan
  | transfer
  deriving DecidableEq, Repr

/-- An object selected by the OAM scan: OAM index, Y, X, height (62_video.md R513). -/
structure ObjEntry where
  index : Nat
  y : Nat
  x : Nat
  height : Nat
  deriving DecidableEq, Repr

/-- One entry of the four object line buffers: `obj_color` (0 = none), `obj_pal`, `obj_prio`, `obj_x`
(62_video.md R514; log entry 12). -/
structure ObjPixel where
  color : BitVec 2
  pal : Bool
  prio : Bool
  x : Nat
  deriving DecidableEq, Repr

/-- The video unit (10_state.md R49, 62_video.md). `objLine` is empty until the first line's dot 80. -/
structure Video where
  lcdc : Byte
  statEn : BitVec 4
  mode : VideoMode
  scy : Byte
  scx : Byte
  lyc : Byte
  bgp : Byte
  obp0 : Byte
  obp1 : Byte
  wy : Byte
  wx : Byte
  ly : Nat
  dot : Nat
  statLine : Bool
  wly : Byte
  winUsed : Bool
  objList : List ObjEntry
  objLine : List ObjPixel
  startup : Nat
  fifo : List (BitVec 2)
  fstep : Nat
  tile : Byte
  lo : Byte
  hi : Byte
  fetchX : Nat
  lx : Nat
  discard : Nat
  inWindow : Bool
  deriving DecidableEq, Repr

/-- A square channel: its four register bytes and its state (63_audio.md R570, R580). -/
structure Square where
  nrx1 : Byte
  nrx2 : Byte
  nrx3 : Byte
  nrx4 : Byte
  active : Bool
  dac : Bool
  len : Nat
  volume : Nat
  envTimer : Nat
  timer : Nat
  dutyPos : Nat
  deriving DecidableEq, Repr

/-- Channel 1's sweep: NR10, shadow period, sweep timer and enable (63_audio.md R590). -/
structure Sweep where
  nr10 : Byte
  shadow : Nat
  timer : Nat
  en : Bool
  deriving DecidableEq, Repr

/-- The wave channel: its register bytes, state and 16-byte table (63_audio.md R600, R601). -/
structure Wave where
  nr30 : Byte
  nr31 : Byte
  nr32 : Byte
  nr33 : Byte
  nr34 : Byte
  active : Bool
  dac : Bool
  len : Nat
  timer : Nat
  pos : Nat
  sampleBuf : Nat
  table : Memory
  deriving DecidableEq, Repr

/-- The noise channel: its register bytes and state (63_audio.md R605). -/
structure Noise where
  nr41 : Byte
  nr42 : Byte
  nr43 : Byte
  nr44 : Byte
  active : Bool
  dac : Bool
  len : Nat
  volume : Nat
  envTimer : Nat
  count : Nat
  lfsr : BitVec 15
  deriving DecidableEq, Repr

/-- The audio unit (10_state.md R50, 63_audio.md). -/
structure Audio where
  on : Bool
  sweep : Sweep
  ch1 : Square
  ch2 : Square
  ch3 : Wave
  ch4 : Noise
  nr50 : Byte
  nr51 : Byte
  fsStep : Nat
  fsPrev : Bool
  sampleCount : Nat
  deriving DecidableEq, Repr

/-- A call to one of the host's sinks (00_scope.md R14): the pixel sink, the frame signal, the sample sink. -/
inductive OutEvent where
  | plotPixel (x y : Nat) (shade : BitVec 2)
  | frameComplete
  | emitSample (amplitude : BitVec 16)
  deriving DecidableEq, Repr

end Sys2Proof.Machine

namespace Sys2Proof.Machine

/-- The whole machine. `ifl` is IF (10_state.md R44), `ie` is IE (R45); `cfg` holds the parameters
(log entry 1) and `out` the host's sink calls, newest first (log entry 8). -/
structure State where
  cpu : Cpu
  ifl : BitVec 5
  ie : Byte
  bootDisabled : Bool
  cart : Cart
  vram : Memory
  wram : Memory
  oam : Memory
  hram : Memory
  cartRam : Memory
  timer : Timer
  dma : Dma
  joypad : Joypad
  serial : Serial
  video : Video
  audio : Audio
  tickCount : Nat
  cfg : Config
  out : List OutEvent
  deriving DecidableEq, Repr

/-- The cartridge controller at power-on (10_state.md R51). -/
def Cart.reset : Cart where
  ramEnable := false
  bankLow := 1
  bankHigh := 0
  mode := false
  romBank := 1
  ramBank := 0

/-- The video unit at power-on: every element zero, the lists empty (10_state.md R49). -/
def Video.reset : Video where
  lcdc := 0
  statEn := 0
  mode := .hblank
  scy := 0
  scx := 0
  lyc := 0
  bgp := 0
  obp0 := 0
  obp1 := 0
  wy := 0
  wx := 0
  ly := 0
  dot := 0
  statLine := false
  wly := 0
  winUsed := false
  objList := []
  objLine := []
  startup := 0
  fifo := []
  fstep := 0
  tile := 0
  lo := 0
  hi := 0
  fetchX := 0
  lx := 0
  discard := 0
  inWindow := false

/-- A square channel at power-on (10_state.md R50). -/
def Square.reset : Square where
  nrx1 := 0
  nrx2 := 0
  nrx3 := 0
  nrx4 := 0
  active := false
  dac := false
  len := 0
  volume := 0
  envTimer := 0
  timer := 0
  dutyPos := 0

/-- The wave channel at power-on (10_state.md R50). -/
def Wave.reset : Wave where
  nr30 := 0
  nr31 := 0
  nr32 := 0
  nr33 := 0
  nr34 := 0
  active := false
  dac := false
  len := 0
  timer := 0
  pos := 0
  sampleBuf := 0
  table := []

/-- The noise channel at power-on (10_state.md R50). -/
def Noise.reset : Noise where
  nr41 := 0
  nr42 := 0
  nr43 := 0
  nr44 := 0
  active := false
  dac := false
  len := 0
  volume := 0
  envTimer := 0
  count := 0
  lfsr := 0

/-- The audio unit at power-on: every element zero, the master enable off (10_state.md R50). -/
def Audio.reset : Audio where
  on := false
  sweep := ⟨0, 0, 0, false⟩
  ch1 := Square.reset
  ch2 := Square.reset
  ch3 := Wave.reset
  ch4 := Noise.reset
  nr50 := 0
  nr51 := 0
  fsStep := 0
  fsPrev := false
  sampleCount := 0

/-- The CPU at power-on: PC 0, interrupts disabled, neither halted nor locked (10_state.md R47); the general
registers from RESET_REGS, with F's low nibble zero (70_reset_and_hazards.md R651). -/
def Cpu.powerOn (p : PowerOn) : Cpu where
  a := p.a
  f := p.f &&& 0xF0
  b := p.b
  c := p.c
  d := p.d
  e := p.e
  h := p.h
  l := p.l
  sp := p.sp
  pc := 0
  ime := false
  imePending := false
  halted := false
  locked := false

/-- Power-on reset for given parameters: every element of 10_state.md R47 to R52 at the value stated
there, in one atomic step that ticks nothing and calls no sink (70_reset_and_hazards.md R650). -/
def State.powerOn (cfg : Config) (p : PowerOn) : State where
  cpu := Cpu.powerOn p
  ifl := 0
  ie := 0
  bootDisabled := false
  cart := Cart.reset
  vram := p.vram
  wram := p.wram
  oam := p.oam
  hram := p.hram
  cartRam := p.cartRam
  timer := ⟨0, 0, 0, 0, false⟩
  dma := ⟨none, none, false, 0, 0, 0⟩
  joypad := ⟨0, 0xF⟩
  serial := ⟨0, 0⟩
  video := Video.reset
  audio := Audio.reset
  tickCount := 0
  cfg := cfg
  out := []

/-- The machine right after power-on reset, with the default parameters (log entries 2 to 7). -/
def State.reset : State := State.powerOn Config.default PowerOn.default

end Sys2Proof.Machine
end

