-- ==== Sys2Proof/Machine/Audio.lean ====
section
/-! DEFINITION. The audio unit: four channels, frame sequencer, mixing and register writes
(spec/63_audio.md). -/

namespace Sys2Proof.Machine

/-- The 11-bit period of NRx3 and NRx4 (63_audio.md R580, R601). -/
def periodOf (nrx3 nrx4 : Byte) : Nat := nrx3.toNat + 256 * (nrx4.toNat % 8)

/-- `v[hi:lo]` of a register byte as a number. -/
def fieldNat (v : Byte) (lo len : Nat) : Nat := (v.extractLsb' lo len).toNat

/-- `dac_x = bool(NRx2 & 0xF8)` (63_audio.md R585). -/
def dacOf (nrx2 : Byte) : Bool := nrx2 &&& 0xF8 != 0

/-- The four duty patterns, step 0 first (63_audio.md R581). -/
def dutyHigh (duty step : Nat) : Bool :=
  match duty with
  | 0 => [false, false, false, false, false, false, false, true].getD step false
  | 1 => [true, false, false, false, false, false, false, true].getD step false
  | 2 => [true, false, false, false, false, true, true, true].getD step false
  | _ => [false, true, true, true, true, true, true, false].getD step false

/-- SquareTick(x) (63_audio.md R582). -/
def squareTick (q : Square) : Square :=
  if q.timer + 1 = 2048 then
    { q with timer := periodOf q.nrx3 q.nrx4, dutyPos := (q.dutyPos + 1) % 8 }
  else { q with timer := q.timer + 1 }

/-- A length counter's clock: the new counter, and whether it silences the channel (63_audio.md R583). -/
def clockLen (nrx4 : Byte) (len : Nat) (active : Bool) : Nat × Bool :=
  if bit nrx4 6 ∧ 0 < len then (len - 1, active && decide (len - 1 ≠ 0)) else (len, active)

/-- An envelope's clock: the new volume and timer (63_audio.md R584). -/
def clockEnv (nrx2 : Byte) (volume timer : Nat) : Nat × Nat :=
  let pace := fieldNat nrx2 0 3
  let t := timer - 1
  if pace = 0 then (volume, timer)
  else if t = 0 then
    (if bit nrx2 3 then (if volume < 15 then volume + 1 else volume) else volume - 1, pace)
  else (volume, t)

/-- ClockLength(1), ClockLength(2) (63_audio.md R583). -/
def Square.clockLength (q : Square) : Square :=
  let r := clockLen q.nrx4 q.len q.active
  { q with len := r.1, active := r.2 }

/-- ClockLength(3) (63_audio.md R583). -/
def Wave.clockLength (w : Wave) : Wave :=
  let r := clockLen w.nr34 w.len w.active
  { w with len := r.1, active := r.2 }

/-- ClockLength(4) (63_audio.md R583). -/
def Noise.clockLength (n : Noise) : Noise :=
  let r := clockLen n.nr44 n.len n.active
  { n with len := r.1, active := r.2 }

/-- ClockEnvelope(1), ClockEnvelope(2) (63_audio.md R584). -/
def Square.clockEnvelope (q : Square) : Square :=
  let r := clockEnv q.nrx2 q.volume q.envTimer
  { q with volume := r.1, envTimer := r.2 }

/-- ClockEnvelope(4) (63_audio.md R584). -/
def Noise.clockEnvelope (n : Noise) : Noise :=
  let r := clockEnv n.nr42 n.volume n.envTimer
  { n with volume := r.1, envTimer := r.2 }

/-- NR10's pace, direction and shift (63_audio.md R590). -/
def Sweep.pace (w : Sweep) : Nat := fieldNat w.nr10 4 3
def Sweep.down (w : Sweep) : Bool := bit w.nr10 3
def Sweep.shift (w : Sweep) : Nat := fieldNat w.nr10 0 3

/-- The period SweepCalc() computes from the shadow (63_audio.md R593). -/
def Sweep.next (w : Sweep) : Nat :=
  let d := w.shadow >>> w.shift
  if w.down then w.shadow - d else w.shadow + d

/-- SweepCalc()'s overflow check: whether channel 1 is switched off (63_audio.md R593). -/
def Sweep.overflows (w : Sweep) : Bool := decide (2047 < w.next)

/-- The sweep timer's reload (63_audio.md R591, R592). -/
def Sweep.reload (w : Sweep) : Nat := if w.pace = 0 then 8 else w.pace

/-- SweepTrigger() on the sweep and channel 1 (63_audio.md R591). -/
def sweepTrigger (w : Sweep) (q : Square) : Sweep × Square :=
  let w1 : Sweep :=
    { w with
      shadow := periodOf q.nrx3 q.nrx4, timer := w.reload
      en := decide (w.pace ≠ 0 ∨ w.shift ≠ 0) }
  (w1, { q with active := q.active && !(decide (w.shift ≠ 0) && w1.overflows) })

/-- The period written back into NR13 and NR14 (63_audio.md R592). -/
def Square.setPeriod (q : Square) (n : Nat) : Square :=
  { q with
    nrx3 := BitVec.ofNat 8 n
    nrx4 := (q.nrx4 &&& 0xF8) ||| BitVec.ofNat 8 (n / 256 % 8) }

/-- ClockSweep() on the sweep and channel 1 (63_audio.md R592). -/
def clockSweep (w : Sweep) (q : Square) : Sweep × Square :=
  let t := w.timer - 1
  if t ≠ 0 then ({ w with timer := t }, q)
  else
    let w1 : Sweep := { w with timer := w.reload }
    if w.en ∧ w.pace ≠ 0 then
      let n := w1.next
      let q1 := { q with active := q.active && !w1.overflows }
      if n ≤ 2047 ∧ w.shift ≠ 0 then
        let w2 : Sweep := { w1 with shadow := n }
        let q2 := q1.setPeriod n
        (w2, { q2 with active := q2.active && !w2.overflows })
      else (w1, q1)
    else (w1, q)

/-- Sample k of the wave table: the high nibble of byte `k >> 1` when k is even (63_audio.md R600). -/
def waveSample (table : Memory) (k : Nat) : Nat :=
  let b := table.read (k / 2)
  if k % 2 = 0 then b.toNat / 16 else b.toNat % 16

/-- WaveTick() (63_audio.md R602). -/
def waveTick (w : Wave) : Wave :=
  if w.timer + 1 = 2048 then
    let pos := (w.pos + 1) % 32
    { w with timer := periodOf w.nr33 w.nr34, pos := pos, sampleBuf := waveSample w.table pos }
  else { w with timer := w.timer + 1 }

/-- LfsrStep() (63_audio.md R605). -/
def lfsrStep (narrow : Bool) (l : BitVec 15) : BitVec 15 :=
  let b := (l ^^^ (l >>> 1)).getLsbD 0
  let fb : BitVec 15 := (BitVec.ofBool b).setWidth 15
  let l1 := (l >>> 1) ||| (fb <<< 14)
  if narrow then (l1 &&& ~~~(0x0040 : BitVec 15)) ||| (fb <<< 6) else l1

/-- DIVISOR (63_audio.md R606). -/
def noiseDivisor (r : Nat) : Nat := [2, 4, 8, 12, 16, 20, 24, 28].getD r 28

/-- NoiseTick() (63_audio.md R606). -/
def noiseTick (n : Noise) : Noise :=
  let s := fieldNat n.nr43 4 4
  if 14 ≤ s then n
  else if noiseDivisor (fieldNat n.nr43 0 3) <<< s ≤ n.count + 1 then
    { n with count := 0, lfsr := lfsrStep (bit n.nr43 3) n.lfsr }
  else { n with count := n.count + 1 }

/-- The level of a square channel (63_audio.md R587). -/
def Square.level (q : Square) : Nat :=
  if q.active ∧ q.dac ∧ dutyHigh (fieldNat q.nrx1 6 2) q.dutyPos then q.volume else 0

/-- NR32's shift: mute, 100%, 50%, 25% (63_audio.md R604). -/
def waveShift (code : Nat) : Nat := [4, 0, 1, 2].getD code 4

/-- The level of the wave channel (63_audio.md R604). -/
def Wave.level (w : Wave) : Nat :=
  if w.active ∧ w.dac then w.sampleBuf >>> waveShift (fieldNat w.nr32 5 2) else 0

/-- The level of the noise channel (63_audio.md R607). -/
def Noise.level (n : Noise) : Nat :=
  if n.active ∧ n.dac ∧ n.lfsr.getLsbD 0 = false then n.volume else 0

/-- f(level) of the parameter MIX, with f(0) = 0 (63_audio.md R611). -/
def mixOf (cfg : Config) (level : Nat) : BitVec 16 :=
  match level with
  | 0 => 0
  | l + 1 => cfg.mixTable.getD l 0

/-- The sample: the sum of the four contributions (63_audio.md R611). -/
def mixSample (cfg : Config) (a : Audio) : BitVec 16 :=
  mixOf cfg a.ch1.level + mixOf cfg a.ch2.level + mixOf cfg a.ch3.level + mixOf cfg a.ch4.level

/-- The length clocks of a frame-sequencer step (63_audio.md R575). -/
def clockLengths (a : Audio) : Audio :=
  { a with
    ch1 := a.ch1.clockLength, ch2 := a.ch2.clockLength, ch3 := a.ch3.clockLength, ch4 := a.ch4.clockLength }

/-- The sweep clock of a frame-sequencer step. -/
def clockSweeps (a : Audio) : Audio :=
  let r := clockSweep a.sweep a.ch1
  { a with sweep := r.1, ch1 := r.2 }

/-- The envelope clocks of a frame-sequencer step. -/
def clockEnvelopes (a : Audio) : Audio :=
  { a with ch1 := a.ch1.clockEnvelope, ch2 := a.ch2.clockEnvelope, ch4 := a.ch4.clockEnvelope }

/-- FrameSeqStep(): lengths even while off, sweep and envelope only while on (63_audio.md R575). -/
def frameSeqStep (a : Audio) : Audio :=
  let a1 := if a.fsStep % 2 = 0 then clockLengths a else a
  let a2 := if a.on ∧ (a.fsStep = 2 ∨ a.fsStep = 6) then clockSweeps a1 else a1
  let a3 := if a.on ∧ a.fsStep = 7 then clockEnvelopes a2 else a2
  { a3 with fsStep := (a.fsStep + 1) % 8 }

/-- FrameSeqEdge(): a step on the falling edge of div16 bit 10 (63_audio.md R575). -/
def frameSeqEdge (div16 : BitVec 16) (a : Audio) : Audio :=
  let b := div16.getLsbD 10
  let a1 := if a.fsPrev && !b then frameSeqStep a else a
  { a1 with fsPrev := b }

/-- The generators' ticks, the wave generator twice (63_audio.md R576). -/
def tickGenerators (a : Audio) : Audio :=
  { a with
    ch1 := squareTick a.ch1, ch2 := squareTick a.ch2
    ch3 := waveTick (waveTick a.ch3), ch4 := noiseTick a.ch4 }

/-- SampleOut() (63_audio.md R612). -/
def sampleOut (cfg : Config) (a : Audio) : Audio × List OutEvent :=
  if a.sampleCount + 1 = cfg.samplePeriod then
    ({ a with sampleCount := 0 }, [.emitSample (mixSample cfg a)])
  else ({ a with sampleCount := a.sampleCount + 1 }, [])

/-- AudioTick() (63_audio.md R576). -/
def audioTick (cfg : Config) (div16 : BitVec 16) (a : Audio) : Audio × List OutEvent :=
  sampleOut cfg (tickGenerators (frameSeqEdge div16 a))

/-- The trigger of a square channel without its sweep (63_audio.md R586). -/
def Square.trigger (q : Square) : Square :=
  { q with
    active := q.dac, len := if q.len = 0 then 64 else q.len
    timer := periodOf q.nrx3 q.nrx4, dutyPos := 0
    volume := fieldNat q.nrx2 4 4, envTimer := fieldNat q.nrx2 0 3 }

/-- The trigger of the wave channel (63_audio.md R586, R603). -/
def Wave.trigger (w : Wave) : Wave :=
  { w with
    active := w.dac, len := if w.len = 0 then 256 else w.len
    timer := periodOf w.nr33 w.nr34, pos := 0 }

/-- The trigger of the noise channel (63_audio.md R586, R607). -/
def Noise.trigger (n : Noise) : Noise :=
  { n with
    active := n.dac, len := if n.len = 0 then 64 else n.len
    count := 0, lfsr := 0x7FFF
    volume := fieldNat n.nr42 4 4, envTimer := fieldNat n.nr42 0 3 }

/-- A square channel's register writes: NRx1, NRx2, NRx3 (63_audio.md R573). -/
def Square.writeLen (v : Byte) (q : Square) : Square := { q with nrx1 := v, len := 64 - fieldNat v 0 6 }
def Square.writeEnv (v : Byte) (q : Square) : Square :=
  { q with nrx2 := v, dac := dacOf v, active := q.active && dacOf v }
def Square.writePeriod (v : Byte) (q : Square) : Square := { q with nrx3 := v }

/-- The NRx4 write of channel 2: store the byte, then trigger if bit 7 is set (63_audio.md R573). -/
def Square.writeControl (v : Byte) (q : Square) : Square :=
  let q1 := { q with nrx4 := v }
  if bit v 7 then q1.trigger else q1

/-- The NR14 write: as NR24, and a trigger also starts the sweep (63_audio.md R573, R586). -/
def writeNr14 (v : Byte) (a : Audio) : Audio :=
  if bit v 7 then
    let r := sweepTrigger a.sweep (a.ch1.writeControl v)
    { a with sweep := r.1, ch1 := r.2 }
  else { a with ch1 := a.ch1.writeControl v }

/-- The wave channel's register writes (63_audio.md R573). -/
def Wave.writeDac (v : Byte) (w : Wave) : Wave :=
  { w with nr30 := v, dac := bit v 7, active := w.active && bit v 7 }
def Wave.writeLen (v : Byte) (w : Wave) : Wave := { w with nr31 := v, len := 256 - v.toNat }
def Wave.writeControl (v : Byte) (w : Wave) : Wave :=
  let w1 := { w with nr34 := v }
  if bit v 7 then w1.trigger else w1

/-- The noise channel's register writes (63_audio.md R573). -/
def Noise.writeLen (v : Byte) (n : Noise) : Noise := { n with nr41 := v, len := 64 - fieldNat v 0 6 }
def Noise.writeEnv (v : Byte) (n : Noise) : Noise :=
  { n with nr42 := v, dac := dacOf v, active := n.active && dacOf v }
def Noise.writeControl (v : Byte) (n : Noise) : Noise :=
  let n1 := { n with nr44 := v }
  if bit v 7 then n1.trigger else n1

/-- The NR52 write: on a change to 0 every active flag is cleared, on a change to 1 the sequencer step is
reset (63_audio.md R572). -/
def writeNr52 (v : Byte) (a : Audio) : Audio :=
  let on := bit v 7
  if a.on ∧ ¬on then
    { a with
      on := false
      ch1 := { a.ch1 with active := false }, ch2 := { a.ch2 with active := false }
      ch3 := { a.ch3 with active := false }, ch4 := { a.ch4 with active := false } }
  else if ¬a.on ∧ on then { a with on := true, fsStep := 0 }
  else a

/-- The NR52 read: `0x70 | apu_on << 7 | active4 << 3 | .. | active1` (63_audio.md R571). -/
def readNr52 (a : Audio) : Byte :=
  BitVec.ofBool a.on ++ 0b111#3 ++ BitVec.ofBool a.ch4.active ++ BitVec.ofBool a.ch3.active ++
    BitVec.ofBool a.ch2.active ++ BitVec.ofBool a.ch1.active

end Sys2Proof.Machine
end

