-- ==== Sys2Proof/Machine/Cartridge.lean ====
section
/-! DEFINITION. The cartridge bank controller: readROM, writeROM, readRAM, writeRAM of the three mappers
(spec/20_memory.md R140 to R149). -/

namespace Sys2Proof.Machine

/-- ROM_SIZE (20_memory.md R141). -/
def romSize (cfg : Config) : Nat := 2 ^ (15 + cfg.romSizeExp)

/-- CART_RAM_SIZE (20_memory.md R141). -/
def ramSize (cfg : Config) : Nat :=
  match cfg.ramSizeExp with
  | none => 0
  | some e => 2 ^ (11 + e)

/-- The effective ROM address of a CPU address, before the reduction modulo ROM_SIZE: no mapper
(20_memory.md R142), Variant A read per window (R144, 90_conflicts.md C4), Variant B (R147). -/
def romAddr (cfg : Config) (cart : Cart) (addr : Word) : Nat :=
  let low := addr.toNat &&& 0x3FFF
  let window := addr.getLsbD 14
  match cfg.mapper with
  | .noMapper => addr.toNat &&& 0x7FFF
  | .variantA =>
    if window then low ||| (cart.bankLow.toNat <<< 14) ||| (cart.bankHigh.toNat <<< 19)
    else low ||| (if cart.mode then cart.bankHigh.toNat <<< 19 else 0)
  | .variantB => if window then low ||| (cart.romBank.toNat <<< 14) else low

/-- `readROM(addr)`. -/
def readRom (cfg : Config) (cart : Cart) (addr : Word) : Byte :=
  cfg.cartRom.read (romAddr cfg cart addr % romSize cfg)

/-- `writeROM(addr, v)`: the mapper's register writes; no ROM byte ever changes (20_memory.md R142, R143,
R146). -/
def writeRom (cfg : Config) (addr : Word) (v : Byte) (cart : Cart) : Cart :=
  let a := addr.toNat
  match cfg.mapper with
  | .noMapper => cart
  | .variantA =>
    if a ≤ 0x1FFF then { cart with ramEnable := v &&& 0x0F == 0x0A }
    else if a ≤ 0x3FFF then
      let b := v.extractLsb' 0 5
      { cart with bankLow := if b = 0 then 1 else b }
    else if a ≤ 0x5FFF then { cart with bankHigh := v.extractLsb' 0 2 }
    else { cart with mode := v.getLsbD 0 }
  | .variantB =>
    if a ≤ 0x1FFF then { cart with ramEnable := v == 0x0A }
    else if a ≤ 0x2FFF then { cart with romBank := cart.romBank.extractLsb' 8 1 ++ v }
    else if a ≤ 0x3FFF then { cart with romBank := v.extractLsb' 0 1 ++ cart.romBank.extractLsb' 0 8 }
    else if a ≤ 0x5FFF then { cart with ramBank := v.extractLsb' 0 4 }
    else cart

/-- The cartridge RAM byte a CPU address names, or none where RAM is disabled or absent
(20_memory.md R142, R145, R148, R149). -/
def ramCell (cfg : Config) (cart : Cart) (addr : Word) : Option Nat :=
  let low := addr.toNat &&& 0x1FFF
  if ramSize cfg = 0 ∨ cart.ramEnable = false then none
  else
    match cfg.mapper with
    | .noMapper => none
    | .variantA => some ((low ||| (if cart.mode then cart.bankHigh.toNat <<< 13 else 0)) % ramSize cfg)
    | .variantB => some ((low ||| (cart.ramBank.toNat <<< 13)) % ramSize cfg)

/-- `readRAM(addr)`: 0xFF where RAM is disabled or absent (20_memory.md R149). -/
def readRam (cfg : Config) (cart : Cart) (ram : Memory) (addr : Word) : Byte :=
  match ramCell cfg cart addr with
  | none => 0xFF
  | some i => ram.read i

/-- `writeRAM(addr, v)`: dropped where RAM is disabled or absent (20_memory.md R149). -/
def writeRam (cfg : Config) (cart : Cart) (addr : Word) (v : Byte) (ram : Memory) : Memory :=
  match ramCell cfg cart addr with
  | none => ram
  | some i => ram.write i v

end Sys2Proof.Machine
end

