-- ==== Sys2Proof/Machine/Timer.lean ====
section
/-! DEFINITION. The divider, the timer and the joypad latch (spec/61_timer_dma_joypad.md). -/

namespace Sys2Proof.Machine

/-- `tap(TAC[1:0])` (61_timer_dma_joypad.md R454). -/
def timerTap (sel : BitVec 2) : Nat :=
  match sel with
  | 0 => 7
  | 1 => 1
  | 2 => 3
  | 3 => 5

/-- `sig = div16[tap(TAC[1:0])] & TAC[2]` (61_timer_dma_joypad.md R454). -/
def timerSignal (t : Timer) : Bool :=
  t.div16.getLsbD (timerTap (t.tac.extractLsb' 0 2)) && t.tac.getLsbD 2

/-- The divider's increment (61_timer_dma_joypad.md R451). -/
def countDivider (t : Timer) : Timer := { t with div16 := t.div16 + 1 }

/-- Whether this tick clocks TIMA: the signal fell (61_timer_dma_joypad.md R454). -/
def timerFalls (t : Timer) : Bool := t.prev && !timerSignal t

/-- TimaIncrement() (61_timer_dma_joypad.md R455). -/
def timaIncrement (t : Timer) : Timer :=
  { t with tima := if t.tima = 0xFF then t.tma else t.tima + 1 }

/-- TimerTick() (61_timer_dma_joypad.md R451, R454). -/
def timerTick (t : Timer) : Timer :=
  let t1 := countDivider t
  let t2 := if timerFalls t1 then timaIncrement t1 else t1
  { t2 with prev := timerSignal t1 }

/-- The request TimerTick() makes: IF bit 2 on overflow (61_timer_dma_joypad.md R455). -/
def timerIrq (t : Timer) : BitVec 5 :=
  if timerFalls (countDivider t) && t.tima == 0xFF then 0b00100 else 0

/-- The host's input at a tick: that of the last listed span whose start has come, else nothing pressed
(61_timer_dma_joypad.md R472; log entry 7). -/
def inputAt (cfg : Config) (t : Nat) : InputSpan :=
  cfg.input.foldl (fun cur sp => if sp.start ≤ t then sp else cur) ⟨0, 0xF, 0xF⟩

/-- The lines JoypadPoll() reads: a group counts only while its select bit is low
(61_timer_dma_joypad.md R470). -/
def pollLines (cfg : Config) (t : Nat) (sel : BitVec 2) : BitVec 4 :=
  (if sel.getLsbD 0 then 0xF else (inputAt cfg t).dpad) &&&
    (if sel.getLsbD 1 then 0xF else (inputAt cfg t).buttons)

/-- The request a poll makes: IF bit 4 when a line goes from released to pressed
(61_timer_dma_joypad.md R471). -/
def joypadIrq (old new : BitVec 4) : BitVec 5 :=
  if old &&& ~~~new != 0 then 0b10000 else 0

end Sys2Proof.Machine
end

