-- ==== Sys2Proof/Machine/Video.lean ====
section
/-! DEFINITION. The video unit: one dot, four dots per tick (spec/62_video.md). The functions read VRAM and
OAM directly (R109) and answer the new unit, the IF bits requested and the sink calls made. -/

namespace Sys2Proof.Machine

/-- What a piece of the video unit's work does: the unit after it, the IF bits it sets, and its sink calls,
newest first. -/
structure VideoEffect where
  video : Video
  irq : BitVec 5
  calls : List OutEvent
  deriving DecidableEq, Repr

/-- The number of a mode in STAT bits 1..0 (62_video.md R501). -/
def modeBits : VideoMode → BitVec 2
  | .hblank => 0
  | .vblank => 1
  | .oamScan => 2
  | .transfer => 3

/-- A palette's shade of colour index `i`: `(P >> (2 × i)) & 3` (62_video.md R503). -/
def shadeOf (palette : Byte) (i : BitVec 2) : BitVec 2 := palette.extractLsb' (2 * i.toNat) 2

/-- The colour index of bit `b` of a tile row: `((hi >> b) & 1) << 1 | ((lo >> b) & 1)`
(62_video.md R504). -/
def tilePixel (lo hi : Byte) (b : Nat) : BitVec 2 :=
  BitVec.ofBool (bit hi b) ++ BitVec.ofBool (bit lo b)

/-- The eight colour indices of a tile row, leftmost first (62_video.md R504, R517). -/
def tileRow (lo hi : Byte) : List (BitVec 2) :=
  [tilePixel lo hi 7, tilePixel lo hi 6, tilePixel lo hi 5, tilePixel lo hi 4,
   tilePixel lo hi 3, tilePixel lo hi 2, tilePixel lo hi 1, tilePixel lo hi 0]

/-- ScanEntry(i) (62_video.md R513). -/
def scanEntry (oam : Memory) (i : Nat) (v : Video) : Video :=
  let y := (oam.read (4 * i)).toNat
  let x := (oam.read (4 * i + 1)).toNat
  let h := if bit v.lcdc 2 then 16 else 8
  if v.objList.length < 10 ∧ y ≤ v.ly + 16 ∧ v.ly + 16 < y + h then
    { v with objList := v.objList ++ [⟨i, y, x, h⟩] }
  else v

/-- A line buffer entry no object owns. -/
def noObj : ObjPixel := ⟨0, false, false, 0⟩

/-- One opaque or transparent pixel of an object drawn into the line buffers: column `c` of the object at
`x`, colour `col` (62_video.md R514). -/
def drawObjPixel (x : Nat) (attr : Byte) (lo hi : Byte) (line : List ObjPixel) (c : Nat) : List ObjPixel :=
  let sx := x + c - 8
  let col := tilePixel lo hi (if bit attr 5 then c else 7 - c)
  let old := line.getD sx noObj
  if x + c < 8 ∨ 160 ≤ sx ∨ col = 0 then line
  else if old.color = 0 ∨ x < old.x then line.set sx ⟨col, bit attr 4, bit attr 7, x⟩
  else line

/-- One object drawn into the line buffers (62_video.md R514). -/
def drawObj (vram oam : Memory) (ly : Nat) (line : List ObjPixel) (o : ObjEntry) : List ObjPixel :=
  let t := oam.read (4 * o.index + 2)
  let attr := oam.read (4 * o.index + 3)
  let r0 := ly + 16 - o.y
  let r := if bit attr 6 then o.height - 1 - r0 else r0
  let t' := (if o.height = 16 then t &&& 0xFE else t).toNat
  let lo := vram.read (16 * t' + 2 * r)
  let hi := vram.read (16 * t' + 2 * r + 1)
  [0, 1, 2, 3, 4, 5, 6, 7].foldl (drawObjPixel o.x attr lo hi) line

/-- BuildObjLine() (62_video.md R514). -/
def buildObjLine (vram oam : Memory) (v : Video) : Video :=
  { v with objLine := v.objList.foldl (drawObj vram oam v.ly) (List.replicate 160 noObj) }

/-- PipelineInit() (62_video.md R515). -/
def pipelineInit (v : Video) : Video :=
  { v with fifo := [], fstep := 0, fetchX := 0, lx := 0, discard := v.scx.toNat % 8, inWindow := false, startup := 6 }

/-- The row y the fetcher works on (62_video.md R518). -/
def fetchRow (v : Video) : Nat := if v.inWindow then v.wly.toNat else (v.ly + v.scy.toNat) % 256

/-- MapAddr() as an offset into VRAM (62_video.md R518, R505). -/
def mapAddr (v : Video) : Nat :=
  let cx := if v.inWindow then v.fetchX % 32 else (v.scx.toNat / 8 + v.fetchX) % 32
  let high := if v.inWindow then bit v.lcdc 6 else bit v.lcdc 3
  (if high then 0x1C00 else 0x1800) + 32 * (fetchRow v / 8) + cx

/-- TileRowAddr(t) as an offset into VRAM; without LCDC.4 the index is signed around 0x9000
(62_video.md R518, R504). -/
def tileRowAddr (v : Video) (t : Byte) : Nat :=
  let base := if bit v.lcdc 4 then 16 * t.toNat else if bit t 7 then 16 * t.toNat else 0x1000 + 16 * t.toNat
  base + 2 * (fetchRow v % 8)

/-- FetcherDot() (62_video.md R517). -/
def fetcherDot (vram : Memory) (v : Video) : Video :=
  let v1 :=
    if v.fstep = 1 then { v with tile := vram.read (mapAddr v) }
    else if v.fstep = 3 then { v with lo := vram.read (tileRowAddr v v.tile) }
    else if v.fstep = 5 then { v with hi := vram.read (tileRowAddr v v.tile + 1) }
    else v
  if v1.fstep < 6 then { v1 with fstep := v1.fstep + 1 }
  else
    match v1.fifo with
    | [] => { v1 with fifo := tileRow v1.lo v1.hi, fetchX := v1.fetchX + 1, fstep := 0 }
    | _ :: _ => v1

/-- OutputPixel's shade: LCDC.0 blanks the background, an object pixel wins unless its priority bit is set
over a non-zero background index (62_video.md R520, R522, R523). -/
def pixelShade (v : Video) (b : BitVec 2) : BitVec 2 :=
  let b := if bit v.lcdc 0 then b else 0
  let o := v.objLine.getD v.lx noObj
  if bit v.lcdc 1 ∧ o.color ≠ 0 ∧ ¬(o.prio = true ∧ b ≠ 0) then
    shadeOf (if o.pal then v.obp1 else v.obp0) o.color
  else shadeOf v.bgp b

/-- The window's start condition, tested at every mode-3 dot while not in the window (62_video.md R525). -/
def windowStarts (v : Video) : Bool :=
  !v.inWindow && bit v.lcdc 5 && decide (v.wy.toNat ≤ v.ly) && decide (v.wx.toNat ≤ v.lx + 7)

/-- The switch to the window (62_video.md R516, R525). -/
def enterWindow (v : Video) : Video :=
  { v with
    inWindow := true, winUsed := true, fifo := [], fstep := 0, fetchX := 0
    discard := if v.lx = 0 ∧ v.wx.toNat < 7 then 7 - v.wx.toNat else 0 }

/-- A popped background pixel is dropped while `discard` counts, else it is output at column `lx`
(62_video.md R516). -/
def takePixel (b : BitVec 2) (v : Video) : Video × List OutEvent :=
  if 0 < v.discard then ({ v with discard := v.discard - 1 }, [])
  else ({ v with lx := v.lx + 1 }, [.plotPixel v.lx v.ly (pixelShade v b)])

/-- Mode 0 once `lx` is 160 (62_video.md R516). -/
def endTransfer (v : Video) : Video := { v with mode := if v.lx = 160 then .hblank else v.mode }

/-- The pop that ends a mode-3 dot: at most one pixel out; mode 0 after the 160th (62_video.md R516). -/
def popPixel (v : Video) : Video × List OutEvent :=
  match v.fifo with
  | [] => (v, [])
  | b :: rest =>
    let r := takePixel b { v with fifo := rest }
    (endTransfer r.1, r.2)

/-- Mode3Dot() (62_video.md R516). -/
def mode3Dot (vram : Memory) (v : Video) : Video × List OutEvent :=
  if 0 < v.startup then ({ v with startup := v.startup - 1 }, [])
  else popPixel (fetcherDot vram (if windowStarts v then enterWindow v else v))

/-- The work of a dot before the counters move (62_video.md R512). -/
def dotWork (vram oam : Memory) (v : Video) : Video × List OutEvent :=
  if v.ly < 144 then
    if v.dot < 80 then
      let v1 := if v.dot = 0 then { v with mode := .oamScan, objList := [] } else v
      (if v.dot % 2 = 0 then scanEntry oam (v.dot / 2) v1 else v1, [])
    else if v.dot = 80 then
      mode3Dot vram (pipelineInit (buildObjLine vram oam { v with mode := .transfer }))
    else if v.mode = .transfer then mode3Dot vram v
    else (v, [])
  else (v, [])

/-- EndOfLine() (62_video.md R530). -/
def endOfLine (v : Video) : VideoEffect :=
  let wly := if v.winUsed then v.wly + 1 else v.wly
  let ly := v.ly + 1
  if ly = 144 then
    ⟨{ v with dot := 0, wly := wly, winUsed := false, ly := 144, mode := .vblank }, 0b00001, []⟩
  else if ly = 154 then
    ⟨{ v with dot := 0, wly := 0, winUsed := false, ly := 0 }, 0, [.frameComplete]⟩
  else ⟨{ v with dot := 0, wly := wly, winUsed := false, ly := ly }, 0, []⟩

/-- The counters' move that ends a dot's work (62_video.md R512). -/
def advanceDot (v : Video) : VideoEffect :=
  if v.dot + 1 = 456 then endOfLine v else ⟨{ v with dot := v.dot + 1 }, 0, []⟩

/-- The combined STAT signal (62_video.md R532). -/
def statSignal (v : Video) : Bool :=
  (v.statEn.getLsbD 3 && decide (v.ly = v.lyc.toNat)) ||
  (v.statEn.getLsbD 2 && decide (v.mode = .oamScan)) ||
  (v.statEn.getLsbD 1 && decide (v.mode = .vblank)) ||
  (v.statEn.getLsbD 0 && decide (v.mode = .hblank))

/-- StatUpdate()'s request: only on a 0 to 1 edge of the signal (62_video.md R532). -/
def statIrq (v : Video) : BitVec 5 := if statSignal v && !v.statLine then 0b00010 else 0

/-- StatUpdate() (62_video.md R532). -/
def statUpdate (v : Video) : Video := { v with statLine := statSignal v }

/-- VideoDot() (62_video.md R512). -/
def videoDot (vram oam : Memory) (e : VideoEffect) : VideoEffect :=
  let w := dotWork vram oam e.video
  let n := advanceDot w.1
  ⟨statUpdate n.video, e.irq ||| n.irq ||| statIrq n.video, n.calls ++ w.2 ++ e.calls⟩

/-- VideoTick(): nothing while the display is disabled, else four dots (62_video.md R511, R534). -/
def videoTick (vram oam : Memory) (v : Video) : VideoEffect :=
  let e : VideoEffect := ⟨v, 0, []⟩
  if bit v.lcdc 7 then
    videoDot vram oam (videoDot vram oam (videoDot vram oam (videoDot vram oam e)))
  else e

end Sys2Proof.Machine
end

