-- ==== Sys2Proof/Machine/Bus.lean ====
section
/-! DEFINITION. The bus: the address map, the I/O register map, BusRead and BusWrite (spec/20_memory.md
R100 to R109). -/

namespace Sys2Proof.Machine

/-- The I/O registers of 0xFF00 to 0xFF7F (20_memory.md R106, 63_audio.md R570). -/
inductive IoReg where
  | p1 | sb | sc
  | div | tima | tma | tac
  | iflag
  | nr10 | nr11 | nr12 | nr13 | nr14
  | nr21 | nr22 | nr23 | nr24
  | nr30 | nr31 | nr32 | nr33 | nr34
  | nr41 | nr42 | nr43 | nr44
  | nr50 | nr51 | nr52
  | wave (k : Nat)
  | lcdc | stat | scy | scx | ly | lyc | dma | bgp | obp0 | obp1 | wy | wx
  | bootDisable
  | unused
  deriving DecidableEq, Repr

/-- The one owner of an address (20_memory.md R101, R103); the offsets count from the region's base, a
mirrored address has its WRAM offset (R108). -/
inductive Region where
  | rom
  | vram (k : Nat)
  | cartRam
  | wram (k : Nat)
  | oam (k : Nat)
  | unmapped
  | io (r : IoReg)
  | hram (k : Nat)
  | ie
  deriving DecidableEq, Repr

/-- The I/O register map by the low byte of the address (20_memory.md R106). -/
def ioRegOf (n : Nat) : IoReg :=
  if n < 0x10 then
    match n with
    | 0x00 => .p1
    | 0x01 => .sb
    | 0x02 => .sc
    | 0x04 => .div
    | 0x05 => .tima
    | 0x06 => .tma
    | 0x07 => .tac
    | 0x0F => .iflag
    | _ => .unused
  else if n < 0x30 then
    [IoReg.nr10, .nr11, .nr12, .nr13, .nr14, .unused, .nr21, .nr22, .nr23, .nr24, .nr30, .nr31, .nr32,
     .nr33, .nr34, .unused, .nr41, .nr42, .nr43, .nr44, .nr50, .nr51, .nr52].getD (n - 0x10) .unused
  else if n < 0x40 then .wave (n - 0x30)
  else if n < 0x4C then
    [IoReg.lcdc, .stat, .scy, .scx, .ly, .lyc, .dma, .bgp, .obp0, .obp1, .wy, .wx].getD (n - 0x40) .unused
  else if n = 0x50 then .bootDisable
  else .unused

/-- The address map (20_memory.md R101, R103, R104). -/
def regionOf (addr : Word) : Region :=
  let a := addr.toNat
  if a ≤ 0x7FFF then .rom
  else if a ≤ 0x9FFF then .vram (a - 0x8000)
  else if a ≤ 0xBFFF then .cartRam
  else if a ≤ 0xDFFF then .wram (a - 0xC000)
  else if a ≤ 0xFDFF then .wram (a - 0xE000)
  else if a ≤ 0xFE9F then .oam (a - 0xFE00)
  else if a ≤ 0xFEFF then .unmapped
  else if a ≤ 0xFF7F then .io (ioRegOf (a - 0xFF00))
  else if a ≤ 0xFFFE then .hram (a - 0xFF80)
  else .ie

/-- STAT's read value (62_video.md R501). -/
def readStat (v : Video) : Byte :=
  BitVec.ofBool true ++ v.statEn ++ BitVec.ofBool (decide (v.ly = v.lyc.toNat)) ++ modeBits v.mode

/-- `IoRead` (20_memory.md R106; the audio masks 63_audio.md R571). -/
def ioRead (s : State) (r : IoReg) : Byte :=
  match r with
  | .p1 => 0b11#2 ++ s.joypad.sel ++ s.joypad.lines
  | .sb => s.serial.sb
  | .sc => 0x7E ||| s.serial.sc
  | .div => s.timer.div16.extractLsb' 6 8
  | .tima => s.timer.tima
  | .tma => s.timer.tma
  | .tac => 0b11111#5 ++ s.timer.tac
  | .iflag => 0b111#3 ++ s.ifl
  | .nr10 => s.audio.sweep.nr10 ||| 0x80
  | .nr11 => s.audio.ch1.nrx1 ||| 0x3F
  | .nr12 => s.audio.ch1.nrx2
  | .nr13 => s.audio.ch1.nrx3 ||| 0xFF
  | .nr14 => s.audio.ch1.nrx4 ||| 0xBF
  | .nr21 => s.audio.ch2.nrx1 ||| 0x3F
  | .nr22 => s.audio.ch2.nrx2
  | .nr23 => s.audio.ch2.nrx3 ||| 0xFF
  | .nr24 => s.audio.ch2.nrx4 ||| 0xBF
  | .nr30 => s.audio.ch3.nr30 ||| 0x7F
  | .nr31 => s.audio.ch3.nr31 ||| 0xFF
  | .nr32 => s.audio.ch3.nr32 ||| 0x9F
  | .nr33 => s.audio.ch3.nr33 ||| 0xFF
  | .nr34 => s.audio.ch3.nr34 ||| 0xBF
  | .nr41 => s.audio.ch4.nr41 ||| 0xFF
  | .nr42 => s.audio.ch4.nr42
  | .nr43 => s.audio.ch4.nr43
  | .nr44 => s.audio.ch4.nr44 ||| 0xBF
  | .nr50 => s.audio.nr50
  | .nr51 => s.audio.nr51
  | .nr52 => readNr52 s.audio
  | .wave k => s.audio.ch3.table.read k
  | .lcdc => s.video.lcdc
  | .stat => readStat s.video
  | .scy => s.video.scy
  | .scx => s.video.scx
  | .ly => BitVec.ofNat 8 s.video.ly
  | .lyc => s.video.lyc
  | .dma => s.dma.reg
  | .bgp => s.video.bgp
  | .obp0 => s.video.obp0
  | .obp1 => s.video.obp1
  | .wy => s.video.wy
  | .wx => s.video.wx
  | .bootDisable => 0xFF
  | .unused => 0xFF

/-- `BusRead(addr)`: one owner per address, the boot overlay first while its latch is unset (20_memory.md
R102, R103). Reading changes nothing (R117). -/
def busRead (s : State) (addr : Word) : Byte :=
  if addr.toNat ≤ 0xFF ∧ s.bootDisabled = false then s.cfg.bootRom.read addr.toNat
  else
    match regionOf addr with
    | .rom => readRom s.cfg s.cart addr
    | .vram k => s.vram.read k
    | .cartRam => readRam s.cfg s.cart s.cartRam addr
    | .wram k => s.wram.read k
    | .oam k => if s.dma.active then 0xFF else s.oam.read k
    | .unmapped => 0x00
    | .io r => ioRead s r
    | .hram k => s.hram.read k
    | .ie => s.ie

/-- `DmaRead(addr)`: BusRead as if no DMA were active (61_timer_dma_joypad.md R463). -/
def dmaRead (s : State) (addr : Word) : Byte :=
  busRead { s with dma := { s.dma with active := false } } addr

/-- JoypadPoll() at the current tick (61_timer_dma_joypad.md R470). -/
def joypadPoll (s : State) : State :=
  let lines := pollLines s.cfg s.tickCount s.joypad.sel
  { s with
    joypad := { s.joypad with lines := lines }
    ifl := s.ifl ||| joypadIrq s.joypad.lines lines }

/-- A write to a register 0xFF10 to 0xFF25: dropped while the master enable is off (63_audio.md R573). -/
def audioWrite (f : Audio → Audio) (s : State) : State :=
  { s with audio := if s.audio.on then f s.audio else s.audio }

/-- `IoWrite` (20_memory.md R106; audio 63_audio.md R572, R573). -/
def ioWrite (s : State) (r : IoReg) (v : Byte) : State :=
  match r with
  | .p1 => joypadPoll { s with joypad := { s.joypad with sel := v.extractLsb' 4 2 } }
  | .sb => { s with serial := { s.serial with sb := v } }
  | .sc => { s with serial := { s.serial with sc := v &&& 0x81 } }
  | .div => { s with timer := { s.timer with div16 := 0 } }
  | .tima => { s with timer := { s.timer with tima := v } }
  | .tma => { s with timer := { s.timer with tma := v } }
  | .tac => { s with timer := { s.timer with tac := v.extractLsb' 0 3 } }
  | .iflag => { s with ifl := v.extractLsb' 0 5 }
  | .nr10 => audioWrite (fun a => { a with sweep := { a.sweep with nr10 := v } }) s
  | .nr11 => audioWrite (fun a => { a with ch1 := a.ch1.writeLen v }) s
  | .nr12 => audioWrite (fun a => { a with ch1 := a.ch1.writeEnv v }) s
  | .nr13 => audioWrite (fun a => { a with ch1 := a.ch1.writePeriod v }) s
  | .nr14 => audioWrite (writeNr14 v) s
  | .nr21 => audioWrite (fun a => { a with ch2 := a.ch2.writeLen v }) s
  | .nr22 => audioWrite (fun a => { a with ch2 := a.ch2.writeEnv v }) s
  | .nr23 => audioWrite (fun a => { a with ch2 := a.ch2.writePeriod v }) s
  | .nr24 => audioWrite (fun a => { a with ch2 := a.ch2.writeControl v }) s
  | .nr30 => audioWrite (fun a => { a with ch3 := a.ch3.writeDac v }) s
  | .nr31 => audioWrite (fun a => { a with ch3 := a.ch3.writeLen v }) s
  | .nr32 => audioWrite (fun a => { a with ch3 := { a.ch3 with nr32 := v } }) s
  | .nr33 => audioWrite (fun a => { a with ch3 := { a.ch3 with nr33 := v } }) s
  | .nr34 => audioWrite (fun a => { a with ch3 := a.ch3.writeControl v }) s
  | .nr41 => audioWrite (fun a => { a with ch4 := a.ch4.writeLen v }) s
  | .nr42 => audioWrite (fun a => { a with ch4 := a.ch4.writeEnv v }) s
  | .nr43 => audioWrite (fun a => { a with ch4 := { a.ch4 with nr43 := v } }) s
  | .nr44 => audioWrite (fun a => { a with ch4 := a.ch4.writeControl v }) s
  | .nr50 => audioWrite (fun a => { a with nr50 := v }) s
  | .nr51 => audioWrite (fun a => { a with nr51 := v }) s
  | .nr52 => { s with audio := writeNr52 v s.audio }
  | .wave k => { s with audio := { s.audio with ch3 := { s.audio.ch3 with table := s.audio.ch3.table.write k v } } }
  | .lcdc => { s with video := { s.video with lcdc := v } }
  | .stat => { s with video := { s.video with statEn := v.extractLsb' 3 4 } }
  | .scy => { s with video := { s.video with scy := v } }
  | .scx => { s with video := { s.video with scx := v } }
  | .ly => s
  | .lyc => { s with video := { s.video with lyc := v } }
  | .dma => { s with dma := { s.dma with reg := v, q1 := some v } }
  | .bgp => { s with video := { s.video with bgp := v } }
  | .obp0 => { s with video := { s.video with obp0 := v } }
  | .obp1 => { s with video := { s.video with obp1 := v } }
  | .wy => { s with video := { s.video with wy := v } }
  | .wx => { s with video := { s.video with wx := v } }
  | .bootDisable => { s with bootDisabled := s.bootDisabled || v != 0 }
  | .unused => s

/-- `BusWrite(addr, v)` (20_memory.md R104). -/
def busWrite (s : State) (addr : Word) (v : Byte) : State :=
  match regionOf addr with
  | .rom => { s with cart := writeRom s.cfg addr v s.cart }
  | .vram k => { s with vram := s.vram.write k v }
  | .cartRam => { s with cartRam := writeRam s.cfg s.cart addr v s.cartRam }
  | .wram k => { s with wram := s.wram.write k v }
  | .oam k => { s with oam := if s.dma.active then s.oam else s.oam.write k v }
  | .unmapped => s
  | .io r => ioWrite s r v
  | .hram k => { s with hram := s.hram.write k v }
  | .ie => { s with ie := v }

/-- A byte of memory by where it is stored, whatever address shows it now. -/
inductive Loc where
  | bootRom (k : Nat)
  | cartRom (k : Nat)
  | vram (k : Nat)
  | wram (k : Nat)
  | oam (k : Nat)
  | hram (k : Nat)
  | cartRam (k : Nat)
  | wave (k : Nat)
  deriving DecidableEq, Repr

/-- The byte stored at a location. -/
def State.byteAt (s : State) : Loc → Byte
  | .bootRom k => s.cfg.bootRom.read k
  | .cartRom k => s.cfg.cartRom.read k
  | .vram k => s.vram.read k
  | .wram k => s.wram.read k
  | .oam k => s.oam.read k
  | .hram k => s.hram.read k
  | .cartRam k => s.cartRam.read k
  | .wave k => s.audio.ch3.table.read k

/-- The memory byte a bus write to `addr` stores to in state `s`, or none where it stores to no memory byte
(a mapper register, an I/O register, IE, a dropped write; 20_memory.md R104). -/
def storeLoc (s : State) (addr : Word) : Option Loc :=
  match regionOf addr with
  | .rom => none
  | .vram k => some (.vram k)
  | .cartRam => (ramCell s.cfg s.cart addr).map .cartRam
  | .wram k => some (.wram k)
  | .oam k => if s.dma.active then none else some (.oam k)
  | .unmapped => none
  | .io (.wave k) => some (.wave k)
  | .io _ => none
  | .hram k => some (.hram k)
  | .ie => none

/-- The memory byte a bus read of `addr` shows in state `s`, or none where it shows no memory byte
(20_memory.md R103). -/
def loadLoc (s : State) (addr : Word) : Option Loc :=
  if addr.toNat ≤ 0xFF ∧ s.bootDisabled = false then some (.bootRom addr.toNat)
  else
    match regionOf addr with
    | .rom => some (.cartRom (romAddr s.cfg s.cart addr % romSize s.cfg))
    | .vram k => some (.vram k)
    | .cartRam => (ramCell s.cfg s.cart addr).map .cartRam
    | .wram k => some (.wram k)
    | .oam k => if s.dma.active then none else some (.oam k)
    | .unmapped => none
    | .io (.wave k) => some (.wave k)
    | .io _ => none
    | .hram k => some (.hram k)
    | .ie => none

end Sys2Proof.Machine
end

