-- ==== Sys2Proof/Machine/Flags.lean ====
section
/-! DEFINITION. The flag register's layout and every flag computation of the instruction set
(spec/10_state.md R32 to R36, 41_alu8.md R250, 42_alu16.md, 43_rotate_shift_bit.md R324). -/

namespace Sys2Proof

/-- F from its four flags: bits 7..4 are Z, N, H, C and bits 3..0 are zero (10_state.md R32). -/
def packF (z n h c : Bool) : Byte :=
  BitVec.ofBool z ++ BitVec.ofBool n ++ BitVec.ofBool h ++ BitVec.ofBool c ++ 0#4

def flagZ (f : Byte) : Bool := bit f 7
def flagN (f : Byte) : Bool := bit f 6
def flagH (f : Byte) : Bool := bit f 5
def flagC (f : Byte) : Bool := bit f 4

/-- `alu_add(a, b, c)`: result and F (41_alu8.md R250). -/
def aluAdd (a b : Byte) (c : Bool) : Byte × Byte :=
  let s := a.toNat + b.toNat + c.toNat
  let r := BitVec.ofNat 8 s
  (r, packF (r == 0) false
    ((a &&& 0x0F).toNat + (b &&& 0x0F).toNat + c.toNat > 0xF)
    (s > 0xFF))

/-- `alu_sub(a, b, c)`: result and F (41_alu8.md R250; the half-borrow as 90_conflicts.md C12 reads it). -/
def aluSub (a b : Byte) (c : Bool) : Byte × Byte :=
  let r := a - b - boolByte c
  (r, packF (r == 0) true
    ((a &&& 0x0F).toNat < (b &&& 0x0F).toNat + c.toNat)
    (a.toNat < b.toNat + c.toNat))

/-- One 8-bit ALU operation on A and v with the carry in: the result byte (which CP discards) and F
(41_alu8.md R251 to R274). -/
def aluResult (op : AluOp) (a v : Byte) (c : Bool) : Byte × Byte :=
  match op with
  | .add => aluAdd a v false
  | .adc => aluAdd a v c
  | .sub => aluSub a v false
  | .sbc => aluSub a v c
  | .and => (a &&& v, packF (a &&& v == 0) false true false)
  | .xor => (a ^^^ v, packF (a ^^^ v == 0) false false false)
  | .or  => (a ||| v, packF (a ||| v == 0) false false false)
  | .cp  => aluSub a v false

/-- INC: result and F; C is kept (41_alu8.md R275). -/
def incResult (a f : Byte) : Byte × Byte :=
  (a + 1, packF (a + 1 == 0) false (a &&& 0x0F == 0x0F) (flagC f))

/-- DEC: result and F; C is kept (41_alu8.md R277). -/
def decResult (a f : Byte) : Byte × Byte :=
  (a - 1, packF (a - 1 == 0) true (a &&& 0x0F == 0) (flagC f))

/-- DAA: result and F; N is kept, the test `a > 0x99` uses A before any correction (41_alu8.md R279). -/
def daaResult (a f : Byte) : Byte × Byte :=
  if flagN f then
    let a1 := if flagC f then a - 0x60 else a
    let a2 := if flagH f then a1 - 0x06 else a1
    (a2, packF (a2 == 0) true false (flagC f))
  else
    let high := flagC f || decide (a.toNat > 0x99)
    let a1 := if high then a + 0x60 else a
    let a2 := if flagH f || decide ((a1 &&& 0x0F).toNat > 0x09) then a1 + 0x06 else a1
    (a2, packF (a2 == 0) false false high)

/-- CPL's F: N and H set, Z and C kept (41_alu8.md R280). -/
def cplFlags (f : Byte) : Byte := packF (flagZ f) true true (flagC f)

/-- SCF's F (41_alu8.md R281). -/
def scfFlags (f : Byte) : Byte := packF (flagZ f) false false true

/-- CCF's F (41_alu8.md R282). -/
def ccfFlags (f : Byte) : Byte := packF (flagZ f) false false (!flagC f)

/-- ADD HL,rr: result and F; Z is kept, H is the carry out of bit 11 and C out of bit 15
(42_alu16.md R302). -/
def addHlResult (a b : Word) (f : Byte) : Word × Byte :=
  (a + b, packF (flagZ f) false
    ((a &&& 0x0FFF).toNat + (b &&& 0x0FFF).toNat > 0x0FFF)
    (a.toNat + b.toNat > 0xFFFF))

/-- SP plus a signed displacement: result and F; H and C are the carries out of bits 3 and 7 of the low
byte plus the unsigned displacement (42_alu16.md R303, R304). -/
def addSpResult (sp : Word) (e : Byte) : Word × Byte :=
  (sp + sext16 e, packF false false
    ((sp &&& 0x0F).toNat + (e &&& 0x0F).toNat > 0x0F)
    ((sp &&& 0xFF).toNat + e.toNat > 0xFF))

/-- The eight shift functions: result and carry out (43_rotate_shift_bit.md R324). -/
def shiftResult (op : ShiftOp) (v : Byte) (c : Bool) : Byte × Bool :=
  match op with
  | .rlc  => ((v <<< 1) ||| boolByte (bit v 7), bit v 7)
  | .rrc  => ((v >>> 1) ||| (boolByte (bit v 0) <<< 7), bit v 0)
  | .rl   => ((v <<< 1) ||| boolByte c, bit v 7)
  | .rr   => ((v >>> 1) ||| (boolByte c <<< 7), bit v 0)
  | .sla  => (v <<< 1, bit v 7)
  | .sra  => ((v >>> 1) ||| (v &&& 0x80), bit v 0)
  | .swap => ((v <<< 4) ||| (v >>> 4), false)
  | .srl  => (v >>> 1, bit v 0)

/-- F of a CB shift: Z from the result, C the bit shifted out (43_rotate_shift_bit.md R325 to R340). -/
def shiftFlags (r : Byte) (c : Bool) : Byte := packF (r == 0) false false c

/-- F of an accumulator rotate: Z is always 0 (43_rotate_shift_bit.md R320 to R323). -/
def accRotateFlags (c : Bool) : Byte := packF false false false c

/-- BIT's F: Z is the complement of the bit, C is kept (43_rotate_shift_bit.md R341). -/
def bitFlags (v : Byte) (b : Fin 8) (f : Byte) : Byte := packF (!bit v b) false true (flagC f)

/-- `v & ~(1 << b)` (43_rotate_shift_bit.md R343). -/
def resBit (v : Byte) (b : Fin 8) : Byte := v &&& ~~~((1 : Byte) <<< b.val)

/-- `v | (1 << b)` (43_rotate_shift_bit.md R345). -/
def setBit (v : Byte) (b : Fin 8) : Byte := v ||| ((1 : Byte) <<< b.val)

/-- `cond(cc)` on F (30_encoding.md R175). -/
def condHolds (cc : Cond) (f : Byte) : Bool :=
  match cc with
  | .nz => !flagZ f
  | .z  => flagZ f
  | .nc => !flagC f
  | .c  => flagC f

end Sys2Proof
end

