-- ==== Sys2Proof/Machine/Operands.lean ====
section
/-! DEFINITION. Reading and writing the CPU's registers and pairs through the operand tables of
spec/30_encoding.md R173 to R175, and the register-only effects of the instructions. -/

namespace Sys2Proof.Machine

/-- `x[r]` (00_scope.md R9). -/
def Cpu.reg8 (c : Cpu) : Reg8 → Byte
  | .b => c.b
  | .c => c.c
  | .d => c.d
  | .e => c.e
  | .h => c.h
  | .l => c.l
  | .a => c.a

/-- `x[r] <- v` (00_scope.md R9). -/
def Cpu.setReg8 (r : Reg8) (v : Byte) (c : Cpu) : Cpu :=
  match r with
  | .b => { c with b := v }
  | .c => { c with c := v }
  | .d => { c with d := v }
  | .e => { c with e := v }
  | .h => { c with h := v }
  | .l => { c with l := v }
  | .a => { c with a := v }

/-- The pairs: the first named register is the high byte (10_state.md R31). -/
def Cpu.af (c : Cpu) : Word := word c.a c.f
def Cpu.bc (c : Cpu) : Word := word c.b c.c
def Cpu.de (c : Cpu) : Word := word c.d c.e
def Cpu.hl (c : Cpu) : Word := word c.h c.l

def Cpu.setBc (v : Word) (c : Cpu) : Cpu := { c with b := hiByte v, c := loByte v }
def Cpu.setDe (v : Word) (c : Cpu) : Cpu := { c with d := hiByte v, e := loByte v }
def Cpu.setHl (v : Word) (c : Cpu) : Cpu := { c with h := hiByte v, l := loByte v }

/-- A write of AF masks the flag byte (10_state.md R32, 40_loads.md R224). -/
def Cpu.setAf (v : Word) (c : Cpu) : Cpu := { c with a := hiByte v, f := loByte v &&& 0xF0 }

/-- `x[rp(p)]` (30_encoding.md R174). -/
def Cpu.rp (c : Cpu) : Rp → Word
  | .bc => c.bc
  | .de => c.de
  | .hl => c.hl
  | .sp => c.sp

/-- `x[rp(p)] <- v` (30_encoding.md R174). -/
def Cpu.setRp (p : Rp) (v : Word) (c : Cpu) : Cpu :=
  match p with
  | .bc => c.setBc v
  | .de => c.setDe v
  | .hl => c.setHl v
  | .sp => { c with sp := v }

/-- `x[rp2(p)]` (30_encoding.md R174). -/
def Cpu.rp2 (c : Cpu) : Rp2 → Word
  | .bc => c.bc
  | .de => c.de
  | .hl => c.hl
  | .af => c.af

/-- `x[rp2(p)] <- v` (30_encoding.md R174; AF masked). -/
def Cpu.setRp2 (p : Rp2) (v : Word) (c : Cpu) : Cpu :=
  match p with
  | .bc => c.setBc v
  | .de => c.setDe v
  | .hl => c.setHl v
  | .af => c.setAf v

/-- The address of a pointer operand: BC, DE, or HL before its step (30_encoding.md R174). -/
def Cpu.ptr (c : Cpu) : Rpm → Word
  | .bc => c.bc
  | .de => c.de
  | .hli => c.hl
  | .hld => c.hl

/-- The step of a pointer operand: HL + 1 or HL - 1 after the access (40_loads.md R207 to R210). -/
def Cpu.bumpPtr (p : Rpm) (c : Cpu) : Cpu :=
  match p with
  | .bc => c
  | .de => c
  | .hli => c.setHl (c.hl + 1)
  | .hld => c.setHl (c.hl - 1)

/-- One 8-bit ALU operation on A: CP writes F only (41_alu8.md R251 to R274). -/
def Cpu.aluA (op : AluOp) (v : Byte) (c : Cpu) : Cpu :=
  let r := aluResult op c.a v (flagC c.f)
  { c with a := if op = .cp then c.a else r.1, f := r.2 }

/-- An accumulator rotate (43_rotate_shift_bit.md R320 to R323). -/
def Cpu.rotateA (op : ShiftOp) (c : Cpu) : Cpu :=
  let r := shiftResult op c.a (flagC c.f)
  { c with a := r.1, f := accRotateFlags r.2 }

/-- DAA (41_alu8.md R279). -/
def Cpu.daa (c : Cpu) : Cpu := { c with a := (daaResult c.a c.f).1, f := (daaResult c.a c.f).2 }

/-- CPL (41_alu8.md R280). -/
def Cpu.cpl (c : Cpu) : Cpu := { c with a := ~~~c.a, f := cplFlags c.f }

/-- SCF (41_alu8.md R281). -/
def Cpu.scf (c : Cpu) : Cpu := { c with f := scfFlags c.f }

/-- CCF (41_alu8.md R282). -/
def Cpu.ccf (c : Cpu) : Cpu := { c with f := ccfFlags c.f }

/-- ADD HL,rr (42_alu16.md R302). -/
def Cpu.addHl (p : Rp) (c : Cpu) : Cpu :=
  let r := addHlResult c.hl (c.rp p) c.f
  { c.setHl r.1 with f := r.2 }

/-- ADD SP,e8 (42_alu16.md R303). -/
def Cpu.addSp (e : Byte) (c : Cpu) : Cpu :=
  { c with sp := (addSpResult c.sp e).1, f := (addSpResult c.sp e).2 }

/-- LD HL,SP+e8 (42_alu16.md R304). -/
def Cpu.ldHlSp (e : Byte) (c : Cpu) : Cpu :=
  { c.setHl (addSpResult c.sp e).1 with f := (addSpResult c.sp e).2 }

/-- The interrupt and execution bits: DI, EI, HALT, the lock (45_system.md R392 to R396). -/
def Cpu.di (c : Cpu) : Cpu := { c with ime := false, imePending := false }
def Cpu.ei (c : Cpu) : Cpu := { c with imePending := true }
def Cpu.halt (c : Cpu) : Cpu := { c with halted := true }
def Cpu.lock (c : Cpu) : Cpu := { c with locked := true }

/-- Dispatch's disabling of interrupts (60_exceptions.md R415). -/
def Cpu.disableIme (c : Cpu) : Cpu := { c with ime := false, imePending := false }

/-- RETI's immediate enable; the pending stage is kept (44_control.md R373). -/
def Cpu.enableIme (c : Cpu) : Cpu := { c with ime := true }

/-- The promotion of ime_pending before a fetch (60_exceptions.md R410, R412). -/
def Cpu.promoteIme (c : Cpu) : Cpu :=
  if c.imePending then { c with ime := true, imePending := false } else c

/-- Leaving the halted state (60_exceptions.md R410). -/
def Cpu.wake (c : Cpu) : Cpu := { c with halted := false }

/-- `pc <- target` (00_scope.md R9). -/
def Cpu.setPc (a : Word) (c : Cpu) : Cpu := { c with pc := a }

/-- `SP <- v`. -/
def Cpu.setSp (v : Word) (c : Cpu) : Cpu := { c with sp := v }

/-- `F <- v`. -/
def Cpu.setF (v : Byte) (c : Cpu) : Cpu := { c with f := v }

/-- The target of a JR: the address of the next instruction plus the signed displacement
(44_control.md R364, R371). -/
def Cpu.relative (e : Byte) (c : Cpu) : Word := c.pc + sext16 e

end Sys2Proof.Machine
end

