-- ==== Sys2Proof/Machine/Ops.lean ====
section
/-! DEFINITION. The shared operations of the machine: the system tick, the three bus primitives, fetching,
the stack, operand access, taking an interrupt and returning from one, the lock. -/

namespace Sys2Proof.Machine

/-- The video stage of Tick(): its requests go into IF, its sink calls to the host
(61_timer_dma_joypad.md R450, 62_video.md R511). -/
def videoStage (s : State) : State :=
  let e := videoTick s.vram s.oam s.video
  { s with video := e.video, ifl := s.ifl ||| e.irq, out := e.calls ++ s.out }

/-- The audio stage of Tick(); it sees the divider as the previous tick left it (61_timer_dma_joypad.md
R450, 63_audio.md R576). -/
def audioStage (s : State) : State :=
  let r := audioTick s.cfg s.timer.div16 s.audio
  { s with audio := r.1, out := r.2 ++ s.out }

/-- The transfer counter's step (61_timer_dma_joypad.md R461). -/
def dmaAdvance (d : Dma) : Dma :=
  if d.active then { d with idx := d.idx + 1, active := decide (d.idx + 1 ≠ 160) } else d

/-- The start queue's step: a request in its second stage starts or restarts the transfer
(61_timer_dma_joypad.md R460, R461). -/
def dmaStart (d : Dma) : Dma :=
  match d.q2 with
  | some page => { d with active := true, src := word page 0, idx := 0, q2 := d.q1, q1 := none }
  | none => { d with q2 := d.q1, q1 := none }

/-- DmaTick(): one byte while active, then the start queue (61_timer_dma_joypad.md R461). -/
def dmaStage (s : State) : State :=
  { s with
    oam :=
      if s.dma.active then s.oam.write s.dma.idx (dmaRead s (s.dma.src + BitVec.ofNat 16 s.dma.idx))
      else s.oam
    dma := dmaStart (dmaAdvance s.dma) }

/-- The timer stage of Tick() (61_timer_dma_joypad.md R451 to R455). -/
def timerStage (s : State) : State :=
  { s with timer := timerTick s.timer, ifl := s.ifl ||| timerIrq s.timer }

/-- The end of Tick(): one M-cycle more (61_timer_dma_joypad.md R450). -/
def countTick (s : State) : State := { s with tickCount := s.tickCount + 1 }

/-- Tick(): video, audio, DMA, divider/timer, joypad, in this order (61_timer_dma_joypad.md R450). -/
def tick (s : State) : State :=
  countTick (joypadPoll (timerStage (dmaStage (audioStage (videoStage s)))))

/-- `n` M-cycles. -/
def ticks : Nat → State → State
  | 0, s => s
  | n + 1, s => ticks n (tick s)

/-- Idle() (20_memory.md R105). -/
def idle (s : State) : State := tick s

/-- The state a data transfer sees: after its own tick with TickBefore, before it with TickAfter
(20_memory.md R105). -/
def transferState (s : State) : State :=
  match s.cfg.phase with
  | .tickBefore => tick s
  | .tickAfter => s

/-- MemRead(addr, 1) (20_memory.md R105). -/
def memRead (s : State) (addr : Word) : Byte × State := (busRead (transferState s) addr, tick s)

/-- MemWrite(addr, 1, v) (20_memory.md R105). -/
def memWrite (s : State) (addr : Word) (v : Byte) : State :=
  match s.cfg.phase with
  | .tickBefore => busWrite (tick s) addr v
  | .tickAfter => tick (busWrite s addr v)

/-- Change the CPU's registers and nothing else. -/
def mapCpu (f : Cpu → Cpu) (s : State) : State := { s with cpu := f s.cpu }

/-- Fetch8() (00_scope.md R10). -/
def fetch8 (s : State) : Byte × State :=
  let r := memRead s s.cpu.pc
  (r.1, mapCpu (fun c => c.setPc (c.pc + 1)) r.2)

/-- Push16(v): the high byte first, at the higher address (40_loads.md R222). -/
def push16 (v : Word) (s : State) : State :=
  let s1 := mapCpu (fun c => c.setSp (c.sp - 1)) s
  let s2 := memWrite s1 s1.cpu.sp (hiByte v)
  let s3 := mapCpu (fun c => c.setSp (c.sp - 1)) s2
  memWrite s3 s3.cpu.sp (loByte v)

/-- Pop16(): the low byte first (40_loads.md R222). -/
def pop16 (s : State) : Word × State :=
  let lo := memRead s s.cpu.sp
  let s1 := mapCpu (fun c => c.setSp (c.sp + 1)) lo.2
  let hi := memRead s1 s1.cpu.sp
  (word hi.1 lo.1, mapCpu (fun c => c.setSp (c.sp + 1)) hi.2)

/-- Read an 8-bit operand: a register, or the byte at HL in one M-cycle (30_encoding.md R173). -/
def readOpnd (o : Opnd8) (s : State) : Byte × State :=
  match o with
  | .reg r => (s.cpu.reg8 r, s)
  | .indHl => memRead s s.cpu.hl

/-- Write an 8-bit operand: a register, or the byte at HL in one M-cycle (30_encoding.md R173). -/
def writeOpnd (o : Opnd8) (v : Byte) (s : State) : State :=
  match o with
  | .reg r => mapCpu (Cpu.setReg8 r v) s
  | .indHl => memWrite s s.cpu.hl v

/-- `IF & IE & 0x1F` (60_exceptions.md R410, R411). -/
def pending (s : State) : BitVec 5 := s.ifl &&& s.ie.extractLsb' 0 5

/-- The lowest set bit of the pending requests (60_exceptions.md R413). -/
def pendingSource (p : BitVec 5) : Nat :=
  if p.getLsbD 0 then 0 else if p.getLsbD 1 then 1 else if p.getLsbD 2 then 2 else if p.getLsbD 3 then 3 else 4

/-- The vector of source k: `0x0040 + 8 * k` (60_exceptions.md R414). -/
def vectorOf (k : Nat) : Word := BitVec.ofNat 16 (0x40 + 8 * k)

/-- Clear the request of source k (60_exceptions.md R415). -/
def ackIrq (k : Nat) (s : State) : State := { s with ifl := s.ifl &&& ~~~((1 : BitVec 5) <<< k) }

/-- Dispatch(): taking an interrupt, the one exception entry of the core (60_exceptions.md R415): the source
is chosen and its request cleared, interrupts are disabled, two idle M-cycles, PC is pushed, one idle
M-cycle, PC is the vector. -/
def dispatch (s : State) : State :=
  let k := pendingSource (pending s)
  let s1 := mapCpu Cpu.disableIme (ackIrq k s)
  mapCpu (Cpu.setPc (vectorOf k)) (idle (push16 s.cpu.pc (idle (idle s1))))

/-- RET's pop, idle M-cycle and jump (44_control.md R368). -/
def returnFrom (s : State) : State :=
  let r := pop16 s
  mapCpu (Cpu.setPc r.1) (idle r.2)

/-- The return from an interrupt: RET, and IME is set at once (44_control.md R373, 60_exceptions.md R418). -/
def returnFromInterrupt (s : State) : State := mapCpu Cpu.enableIme (returnFrom s)

end Sys2Proof.Machine
end

