-- ==== Sys2Proof/Machine/Alu16.lean ====
section
/-! DEFINITION. The meanings of the 16-bit arithmetic instructions (spec/42_alu16.md). -/

namespace Sys2Proof.Machine

/-- INC rr (42_alu16.md R300). -/
def incRp (p : Rp) (s : State) : State := mapCpu (fun c => c.setRp p (c.rp p + 1)) (idle s)

/-- DEC rr (42_alu16.md R301). -/
def decRp (p : Rp) (s : State) : State := mapCpu (fun c => c.setRp p (c.rp p - 1)) (idle s)

/-- ADD HL,rr (42_alu16.md R302). -/
def addHl (p : Rp) (s : State) : State := mapCpu (Cpu.addHl p) (idle s)

/-- ADD SP,e8: two idle M-cycles (42_alu16.md R303). -/
def addSp (e : Byte) (s : State) : State := mapCpu (Cpu.addSp e) (idle (idle s))

/-- LD HL,SP+e8 (42_alu16.md R304). -/
def ldHlSp (e : Byte) (s : State) : State := mapCpu (Cpu.ldHlSp e) (idle s)

/-- INC BC (42_alu16.md R300). -/
def execIncBc (s : State) : Host.Outcome State Fault Refusal :=
  .next (incRp .bc s)

/-- ADD HL,BC (42_alu16.md R302). -/
def execAddHlBc (s : State) : Host.Outcome State Fault Refusal :=
  .next (addHl .bc s)

/-- DEC BC (42_alu16.md R301). -/
def execDecBc (s : State) : Host.Outcome State Fault Refusal :=
  .next (decRp .bc s)

/-- INC DE (42_alu16.md R300). -/
def execIncDe (s : State) : Host.Outcome State Fault Refusal :=
  .next (incRp .de s)

/-- ADD HL,DE (42_alu16.md R302). -/
def execAddHlDe (s : State) : Host.Outcome State Fault Refusal :=
  .next (addHl .de s)

/-- DEC DE (42_alu16.md R301). -/
def execDecDe (s : State) : Host.Outcome State Fault Refusal :=
  .next (decRp .de s)

/-- INC HL (42_alu16.md R300). -/
def execIncHl (s : State) : Host.Outcome State Fault Refusal :=
  .next (incRp .hl s)

/-- ADD HL,HL (42_alu16.md R302). -/
def execAddHlHl (s : State) : Host.Outcome State Fault Refusal :=
  .next (addHl .hl s)

/-- DEC HL (42_alu16.md R301). -/
def execDecHl (s : State) : Host.Outcome State Fault Refusal :=
  .next (decRp .hl s)

/-- INC SP (42_alu16.md R300). -/
def execIncSp (s : State) : Host.Outcome State Fault Refusal :=
  .next (incRp .sp s)

/-- ADD HL,SP (42_alu16.md R302). -/
def execAddHlSp (s : State) : Host.Outcome State Fault Refusal :=
  .next (addHl .sp s)

/-- DEC SP (42_alu16.md R301). -/
def execDecSp (s : State) : Host.Outcome State Fault Refusal :=
  .next (decRp .sp s)

/-- ADD SP,e8 (42_alu16.md R303). -/
def execAddSpE8 (e : Byte) (s : State) : Host.Outcome State Fault Refusal :=
  .next (addSp e s)

/-- LD HL,SP+e8 (42_alu16.md R304). -/
def execLdHlSpE8 (e : Byte) (s : State) : Host.Outcome State Fault Refusal :=
  .next (ldHlSp e s)

end Sys2Proof.Machine
end

