-- ==== Sys2Proof/Machine/Alu8.lean ====
section
/-! DEFINITION. The meanings of the 8-bit arithmetic and logic instructions (spec/41_alu8.md). -/

namespace Sys2Proof.Machine

/-- ADD, ADC, SUB, SBC, AND, XOR, OR, CP on a register or the byte at HL (41_alu8.md R251 to R273). -/
def aluOpnd (op : AluOp) (o : Opnd8) (s : State) : State :=
  let r := readOpnd o s
  mapCpu (Cpu.aluA op r.1) r.2

/-- INC r, INC (HL) (41_alu8.md R275, R276). -/
def incOpnd (o : Opnd8) (s : State) : State :=
  let r := readOpnd o s
  let q := incResult r.1 s.cpu.f
  mapCpu (Cpu.setF q.2) (writeOpnd o q.1 r.2)

/-- DEC r, DEC (HL) (41_alu8.md R277, R278). -/
def decOpnd (o : Opnd8) (s : State) : State :=
  let r := readOpnd o s
  let q := decResult r.1 s.cpu.f
  mapCpu (Cpu.setF q.2) (writeOpnd o q.1 r.2)

/-- INC B (41_alu8.md R275). -/
def execIncB (s : State) : Host.Outcome State Fault Refusal :=
  .next (incOpnd (.reg .b) s)

/-- DEC B (41_alu8.md R277). -/
def execDecB (s : State) : Host.Outcome State Fault Refusal :=
  .next (decOpnd (.reg .b) s)

/-- INC C (41_alu8.md R275). -/
def execIncC (s : State) : Host.Outcome State Fault Refusal :=
  .next (incOpnd (.reg .c) s)

/-- DEC C (41_alu8.md R277). -/
def execDecC (s : State) : Host.Outcome State Fault Refusal :=
  .next (decOpnd (.reg .c) s)

/-- INC D (41_alu8.md R275). -/
def execIncD (s : State) : Host.Outcome State Fault Refusal :=
  .next (incOpnd (.reg .d) s)

/-- DEC D (41_alu8.md R277). -/
def execDecD (s : State) : Host.Outcome State Fault Refusal :=
  .next (decOpnd (.reg .d) s)

/-- INC E (41_alu8.md R275). -/
def execIncE (s : State) : Host.Outcome State Fault Refusal :=
  .next (incOpnd (.reg .e) s)

/-- DEC E (41_alu8.md R277). -/
def execDecE (s : State) : Host.Outcome State Fault Refusal :=
  .next (decOpnd (.reg .e) s)

/-- INC H (41_alu8.md R275). -/
def execIncH (s : State) : Host.Outcome State Fault Refusal :=
  .next (incOpnd (.reg .h) s)

/-- DEC H (41_alu8.md R277). -/
def execDecH (s : State) : Host.Outcome State Fault Refusal :=
  .next (decOpnd (.reg .h) s)

/-- DAA (41_alu8.md R279). -/
def execDaa (s : State) : Host.Outcome State Fault Refusal :=
  .next (mapCpu Cpu.daa s)

/-- INC L (41_alu8.md R275). -/
def execIncL (s : State) : Host.Outcome State Fault Refusal :=
  .next (incOpnd (.reg .l) s)

/-- DEC L (41_alu8.md R277). -/
def execDecL (s : State) : Host.Outcome State Fault Refusal :=
  .next (decOpnd (.reg .l) s)

/-- CPL (41_alu8.md R280). -/
def execCpl (s : State) : Host.Outcome State Fault Refusal :=
  .next (mapCpu Cpu.cpl s)

/-- INC (HL) (41_alu8.md R276). -/
def execIncIndHl (s : State) : Host.Outcome State Fault Refusal :=
  .next (incOpnd .indHl s)

/-- DEC (HL) (41_alu8.md R278). -/
def execDecIndHl (s : State) : Host.Outcome State Fault Refusal :=
  .next (decOpnd .indHl s)

/-- SCF (41_alu8.md R281). -/
def execScf (s : State) : Host.Outcome State Fault Refusal :=
  .next (mapCpu Cpu.scf s)

/-- INC A (41_alu8.md R275). -/
def execIncA (s : State) : Host.Outcome State Fault Refusal :=
  .next (incOpnd (.reg .a) s)

/-- DEC A (41_alu8.md R277). -/
def execDecA (s : State) : Host.Outcome State Fault Refusal :=
  .next (decOpnd (.reg .a) s)

/-- CCF (41_alu8.md R282). -/
def execCcf (s : State) : Host.Outcome State Fault Refusal :=
  .next (mapCpu Cpu.ccf s)

/-- ADD A,B (41_alu8.md R251). -/
def execAddAB (s : State) : Host.Outcome State Fault Refusal :=
  .next (aluOpnd .add (.reg .b) s)

/-- ADD A,C (41_alu8.md R251). -/
def execAddAC (s : State) : Host.Outcome State Fault Refusal :=
  .next (aluOpnd .add (.reg .c) s)

/-- ADD A,D (41_alu8.md R251). -/
def execAddAD (s : State) : Host.Outcome State Fault Refusal :=
  .next (aluOpnd .add (.reg .d) s)

/-- ADD A,E (41_alu8.md R251). -/
def execAddAE (s : State) : Host.Outcome State Fault Refusal :=
  .next (aluOpnd .add (.reg .e) s)

/-- ADD A,H (41_alu8.md R251). -/
def execAddAH (s : State) : Host.Outcome State Fault Refusal :=
  .next (aluOpnd .add (.reg .h) s)

/-- ADD A,L (41_alu8.md R251). -/
def execAddAL (s : State) : Host.Outcome State Fault Refusal :=
  .next (aluOpnd .add (.reg .l) s)

/-- ADD A,(HL) (41_alu8.md R252). -/
def execAddAIndHl (s : State) : Host.Outcome State Fault Refusal :=
  .next (aluOpnd .add .indHl s)

/-- ADD A,A (41_alu8.md R251). -/
def execAddAA (s : State) : Host.Outcome State Fault Refusal :=
  .next (aluOpnd .add (.reg .a) s)

/-- ADC A,B (41_alu8.md R254). -/
def execAdcAB (s : State) : Host.Outcome State Fault Refusal :=
  .next (aluOpnd .adc (.reg .b) s)

/-- ADC A,C (41_alu8.md R254). -/
def execAdcAC (s : State) : Host.Outcome State Fault Refusal :=
  .next (aluOpnd .adc (.reg .c) s)

/-- ADC A,D (41_alu8.md R254). -/
def execAdcAD (s : State) : Host.Outcome State Fault Refusal :=
  .next (aluOpnd .adc (.reg .d) s)

/-- ADC A,E (41_alu8.md R254). -/
def execAdcAE (s : State) : Host.Outcome State Fault Refusal :=
  .next (aluOpnd .adc (.reg .e) s)

/-- ADC A,H (41_alu8.md R254). -/
def execAdcAH (s : State) : Host.Outcome State Fault Refusal :=
  .next (aluOpnd .adc (.reg .h) s)

/-- ADC A,L (41_alu8.md R254). -/
def execAdcAL (s : State) : Host.Outcome State Fault Refusal :=
  .next (aluOpnd .adc (.reg .l) s)

/-- ADC A,(HL) (41_alu8.md R255). -/
def execAdcAIndHl (s : State) : Host.Outcome State Fault Refusal :=
  .next (aluOpnd .adc .indHl s)

/-- ADC A,A (41_alu8.md R254). -/
def execAdcAA (s : State) : Host.Outcome State Fault Refusal :=
  .next (aluOpnd .adc (.reg .a) s)

/-- SUB B (41_alu8.md R257). -/
def execSubB (s : State) : Host.Outcome State Fault Refusal :=
  .next (aluOpnd .sub (.reg .b) s)

/-- SUB C (41_alu8.md R257). -/
def execSubC (s : State) : Host.Outcome State Fault Refusal :=
  .next (aluOpnd .sub (.reg .c) s)

/-- SUB D (41_alu8.md R257). -/
def execSubD (s : State) : Host.Outcome State Fault Refusal :=
  .next (aluOpnd .sub (.reg .d) s)

/-- SUB E (41_alu8.md R257). -/
def execSubE (s : State) : Host.Outcome State Fault Refusal :=
  .next (aluOpnd .sub (.reg .e) s)

/-- SUB H (41_alu8.md R257). -/
def execSubH (s : State) : Host.Outcome State Fault Refusal :=
  .next (aluOpnd .sub (.reg .h) s)

/-- SUB L (41_alu8.md R257). -/
def execSubL (s : State) : Host.Outcome State Fault Refusal :=
  .next (aluOpnd .sub (.reg .l) s)

/-- SUB (HL) (41_alu8.md R258). -/
def execSubIndHl (s : State) : Host.Outcome State Fault Refusal :=
  .next (aluOpnd .sub .indHl s)

/-- SUB A (41_alu8.md R257). -/
def execSubA (s : State) : Host.Outcome State Fault Refusal :=
  .next (aluOpnd .sub (.reg .a) s)

/-- SBC A,B (41_alu8.md R260). -/
def execSbcAB (s : State) : Host.Outcome State Fault Refusal :=
  .next (aluOpnd .sbc (.reg .b) s)

/-- SBC A,C (41_alu8.md R260). -/
def execSbcAC (s : State) : Host.Outcome State Fault Refusal :=
  .next (aluOpnd .sbc (.reg .c) s)

/-- SBC A,D (41_alu8.md R260). -/
def execSbcAD (s : State) : Host.Outcome State Fault Refusal :=
  .next (aluOpnd .sbc (.reg .d) s)

/-- SBC A,E (41_alu8.md R260). -/
def execSbcAE (s : State) : Host.Outcome State Fault Refusal :=
  .next (aluOpnd .sbc (.reg .e) s)

/-- SBC A,H (41_alu8.md R260). -/
def execSbcAH (s : State) : Host.Outcome State Fault Refusal :=
  .next (aluOpnd .sbc (.reg .h) s)

/-- SBC A,L (41_alu8.md R260). -/
def execSbcAL (s : State) : Host.Outcome State Fault Refusal :=
  .next (aluOpnd .sbc (.reg .l) s)

/-- SBC A,(HL) (41_alu8.md R261). -/
def execSbcAIndHl (s : State) : Host.Outcome State Fault Refusal :=
  .next (aluOpnd .sbc .indHl s)

/-- SBC A,A (41_alu8.md R260). -/
def execSbcAA (s : State) : Host.Outcome State Fault Refusal :=
  .next (aluOpnd .sbc (.reg .a) s)

/-- AND B (41_alu8.md R263). -/
def execAndB (s : State) : Host.Outcome State Fault Refusal :=
  .next (aluOpnd .and (.reg .b) s)

/-- AND C (41_alu8.md R263). -/
def execAndC (s : State) : Host.Outcome State Fault Refusal :=
  .next (aluOpnd .and (.reg .c) s)

/-- AND D (41_alu8.md R263). -/
def execAndD (s : State) : Host.Outcome State Fault Refusal :=
  .next (aluOpnd .and (.reg .d) s)

/-- AND E (41_alu8.md R263). -/
def execAndE (s : State) : Host.Outcome State Fault Refusal :=
  .next (aluOpnd .and (.reg .e) s)

/-- AND H (41_alu8.md R263). -/
def execAndH (s : State) : Host.Outcome State Fault Refusal :=
  .next (aluOpnd .and (.reg .h) s)

/-- AND L (41_alu8.md R263). -/
def execAndL (s : State) : Host.Outcome State Fault Refusal :=
  .next (aluOpnd .and (.reg .l) s)

/-- AND (HL) (41_alu8.md R264). -/
def execAndIndHl (s : State) : Host.Outcome State Fault Refusal :=
  .next (aluOpnd .and .indHl s)

/-- AND A (41_alu8.md R263). -/
def execAndA (s : State) : Host.Outcome State Fault Refusal :=
  .next (aluOpnd .and (.reg .a) s)

/-- XOR B (41_alu8.md R266). -/
def execXorB (s : State) : Host.Outcome State Fault Refusal :=
  .next (aluOpnd .xor (.reg .b) s)

/-- XOR C (41_alu8.md R266). -/
def execXorC (s : State) : Host.Outcome State Fault Refusal :=
  .next (aluOpnd .xor (.reg .c) s)

/-- XOR D (41_alu8.md R266). -/
def execXorD (s : State) : Host.Outcome State Fault Refusal :=
  .next (aluOpnd .xor (.reg .d) s)

/-- XOR E (41_alu8.md R266). -/
def execXorE (s : State) : Host.Outcome State Fault Refusal :=
  .next (aluOpnd .xor (.reg .e) s)

/-- XOR H (41_alu8.md R266). -/
def execXorH (s : State) : Host.Outcome State Fault Refusal :=
  .next (aluOpnd .xor (.reg .h) s)

/-- XOR L (41_alu8.md R266). -/
def execXorL (s : State) : Host.Outcome State Fault Refusal :=
  .next (aluOpnd .xor (.reg .l) s)

/-- XOR (HL) (41_alu8.md R267). -/
def execXorIndHl (s : State) : Host.Outcome State Fault Refusal :=
  .next (aluOpnd .xor .indHl s)

/-- XOR A (41_alu8.md R266). -/
def execXorA (s : State) : Host.Outcome State Fault Refusal :=
  .next (aluOpnd .xor (.reg .a) s)

/-- OR B (41_alu8.md R269). -/
def execOrB (s : State) : Host.Outcome State Fault Refusal :=
  .next (aluOpnd .or (.reg .b) s)

/-- OR C (41_alu8.md R269). -/
def execOrC (s : State) : Host.Outcome State Fault Refusal :=
  .next (aluOpnd .or (.reg .c) s)

/-- OR D (41_alu8.md R269). -/
def execOrD (s : State) : Host.Outcome State Fault Refusal :=
  .next (aluOpnd .or (.reg .d) s)

/-- OR E (41_alu8.md R269). -/
def execOrE (s : State) : Host.Outcome State Fault Refusal :=
  .next (aluOpnd .or (.reg .e) s)

/-- OR H (41_alu8.md R269). -/
def execOrH (s : State) : Host.Outcome State Fault Refusal :=
  .next (aluOpnd .or (.reg .h) s)

/-- OR L (41_alu8.md R269). -/
def execOrL (s : State) : Host.Outcome State Fault Refusal :=
  .next (aluOpnd .or (.reg .l) s)

/-- OR (HL) (41_alu8.md R270). -/
def execOrIndHl (s : State) : Host.Outcome State Fault Refusal :=
  .next (aluOpnd .or .indHl s)

/-- OR A (41_alu8.md R269). -/
def execOrA (s : State) : Host.Outcome State Fault Refusal :=
  .next (aluOpnd .or (.reg .a) s)

/-- CP B (41_alu8.md R272). -/
def execCpB (s : State) : Host.Outcome State Fault Refusal :=
  .next (aluOpnd .cp (.reg .b) s)

/-- CP C (41_alu8.md R272). -/
def execCpC (s : State) : Host.Outcome State Fault Refusal :=
  .next (aluOpnd .cp (.reg .c) s)

/-- CP D (41_alu8.md R272). -/
def execCpD (s : State) : Host.Outcome State Fault Refusal :=
  .next (aluOpnd .cp (.reg .d) s)

/-- CP E (41_alu8.md R272). -/
def execCpE (s : State) : Host.Outcome State Fault Refusal :=
  .next (aluOpnd .cp (.reg .e) s)

/-- CP H (41_alu8.md R272). -/
def execCpH (s : State) : Host.Outcome State Fault Refusal :=
  .next (aluOpnd .cp (.reg .h) s)

/-- CP L (41_alu8.md R272). -/
def execCpL (s : State) : Host.Outcome State Fault Refusal :=
  .next (aluOpnd .cp (.reg .l) s)

/-- CP (HL) (41_alu8.md R273). -/
def execCpIndHl (s : State) : Host.Outcome State Fault Refusal :=
  .next (aluOpnd .cp .indHl s)

/-- CP A (41_alu8.md R272). -/
def execCpA (s : State) : Host.Outcome State Fault Refusal :=
  .next (aluOpnd .cp (.reg .a) s)

/-- ADD A,n8 (41_alu8.md R253). -/
def execAddAN8 (n : Byte) (s : State) : Host.Outcome State Fault Refusal :=
  .next (mapCpu (Cpu.aluA .add n) s)

/-- ADC A,n8 (41_alu8.md R256). -/
def execAdcAN8 (n : Byte) (s : State) : Host.Outcome State Fault Refusal :=
  .next (mapCpu (Cpu.aluA .adc n) s)

/-- SUB n8 (41_alu8.md R259). -/
def execSubN8 (n : Byte) (s : State) : Host.Outcome State Fault Refusal :=
  .next (mapCpu (Cpu.aluA .sub n) s)

/-- SBC A,n8 (41_alu8.md R262). -/
def execSbcAN8 (n : Byte) (s : State) : Host.Outcome State Fault Refusal :=
  .next (mapCpu (Cpu.aluA .sbc n) s)

/-- AND n8 (41_alu8.md R265). -/
def execAndN8 (n : Byte) (s : State) : Host.Outcome State Fault Refusal :=
  .next (mapCpu (Cpu.aluA .and n) s)

/-- XOR n8 (41_alu8.md R268). -/
def execXorN8 (n : Byte) (s : State) : Host.Outcome State Fault Refusal :=
  .next (mapCpu (Cpu.aluA .xor n) s)

/-- OR n8 (41_alu8.md R271). -/
def execOrN8 (n : Byte) (s : State) : Host.Outcome State Fault Refusal :=
  .next (mapCpu (Cpu.aluA .or n) s)

/-- CP n8 (41_alu8.md R274). -/
def execCpN8 (n : Byte) (s : State) : Host.Outcome State Fault Refusal :=
  .next (mapCpu (Cpu.aluA .cp n) s)

end Sys2Proof.Machine
end

