-- ==== Sys2Proof/Machine/Control.lean ====
section
/-! DEFINITION. The meanings of the jumps, calls, returns and restarts (spec/44_control.md). -/

namespace Sys2Proof.Machine

/-- JP n16 (44_control.md R361). -/
def jp (a : Word) (s : State) : State := mapCpu (Cpu.setPc a) (idle s)

/-- JP cc,n16: not taken, nothing more than the fetches (44_control.md R362). -/
def jpIf (cc : Cond) (a : Word) (s : State) : State := if condHolds cc s.cpu.f then jp a s else s

/-- JR e8: relative to the next instruction (44_control.md R364). -/
def jr (e : Byte) (s : State) : State := mapCpu (fun c => c.setPc (c.relative e)) (idle s)

/-- JR cc,e8 (44_control.md R365). -/
def jrIf (cc : Cond) (e : Byte) (s : State) : State := if condHolds cc s.cpu.f then jr e s else s

/-- CALL n16: the pushed PC is the next instruction's address (44_control.md R366). -/
def call (a : Word) (s : State) : State := mapCpu (Cpu.setPc a) (push16 s.cpu.pc (idle s))

/-- CALL cc,n16 (44_control.md R367). -/
def callIf (cc : Cond) (a : Word) (s : State) : State := if condHolds cc s.cpu.f then call a s else s

/-- RST t, t = 8 * y (44_control.md R370). -/
def rst (y : Fin 8) (s : State) : State :=
  mapCpu (Cpu.setPc (BitVec.ofNat 16 (8 * y.val))) (push16 s.cpu.pc (idle s))

/-- RET (44_control.md R368). -/
def ret (s : State) : State := returnFrom s

/-- RET cc: the first idle M-cycle is spent either way (44_control.md R369). -/
def retIf (cc : Cond) (s : State) : State :=
  if condHolds cc s.cpu.f then returnFrom (idle s) else idle s

/-- RETI (44_control.md R373). -/
def reti (s : State) : State := returnFromInterrupt s

/-- JR e8 (44_control.md R364). -/
def execJrE8 (e : Byte) (s : State) : Host.Outcome State Fault Refusal :=
  .next (jr e s)

/-- JR NZ,e8 (44_control.md R365). -/
def execJrNzE8 (e : Byte) (s : State) : Host.Outcome State Fault Refusal :=
  .next (jrIf .nz e s)

/-- JR Z,e8 (44_control.md R365). -/
def execJrZE8 (e : Byte) (s : State) : Host.Outcome State Fault Refusal :=
  .next (jrIf .z e s)

/-- JR NC,e8 (44_control.md R365). -/
def execJrNcE8 (e : Byte) (s : State) : Host.Outcome State Fault Refusal :=
  .next (jrIf .nc e s)

/-- JR C,e8 (44_control.md R365). -/
def execJrCE8 (e : Byte) (s : State) : Host.Outcome State Fault Refusal :=
  .next (jrIf .c e s)

/-- RET NZ (44_control.md R369). -/
def execRetNz (s : State) : Host.Outcome State Fault Refusal :=
  .next (retIf .nz s)

/-- JP NZ,n16 (44_control.md R362). -/
def execJpNzN16 (n : Word) (s : State) : Host.Outcome State Fault Refusal :=
  .next (jpIf .nz n s)

/-- JP n16 (44_control.md R361). -/
def execJpN16 (n : Word) (s : State) : Host.Outcome State Fault Refusal :=
  .next (jp n s)

/-- CALL NZ,n16 (44_control.md R367). -/
def execCallNzN16 (n : Word) (s : State) : Host.Outcome State Fault Refusal :=
  .next (callIf .nz n s)

/-- RST 0x00 (44_control.md R370). -/
def execRst00 (s : State) : Host.Outcome State Fault Refusal :=
  .next (rst 0 s)

/-- RET Z (44_control.md R369). -/
def execRetZ (s : State) : Host.Outcome State Fault Refusal :=
  .next (retIf .z s)

/-- RET (44_control.md R368). -/
def execRet (s : State) : Host.Outcome State Fault Refusal :=
  .next (ret s)

/-- JP Z,n16 (44_control.md R362). -/
def execJpZN16 (n : Word) (s : State) : Host.Outcome State Fault Refusal :=
  .next (jpIf .z n s)

/-- CALL Z,n16 (44_control.md R367). -/
def execCallZN16 (n : Word) (s : State) : Host.Outcome State Fault Refusal :=
  .next (callIf .z n s)

/-- CALL n16 (44_control.md R366). -/
def execCallN16 (n : Word) (s : State) : Host.Outcome State Fault Refusal :=
  .next (call n s)

/-- RST 0x08 (44_control.md R370). -/
def execRst08 (s : State) : Host.Outcome State Fault Refusal :=
  .next (rst 1 s)

/-- RET NC (44_control.md R369). -/
def execRetNc (s : State) : Host.Outcome State Fault Refusal :=
  .next (retIf .nc s)

/-- JP NC,n16 (44_control.md R362). -/
def execJpNcN16 (n : Word) (s : State) : Host.Outcome State Fault Refusal :=
  .next (jpIf .nc n s)

/-- CALL NC,n16 (44_control.md R367). -/
def execCallNcN16 (n : Word) (s : State) : Host.Outcome State Fault Refusal :=
  .next (callIf .nc n s)

/-- RST 0x10 (44_control.md R370). -/
def execRst10 (s : State) : Host.Outcome State Fault Refusal :=
  .next (rst 2 s)

/-- RET C (44_control.md R369). -/
def execRetC (s : State) : Host.Outcome State Fault Refusal :=
  .next (retIf .c s)

/-- RETI (44_control.md R373). -/
def execReti (s : State) : Host.Outcome State Fault Refusal :=
  .next (reti s)

/-- JP C,n16 (44_control.md R362). -/
def execJpCN16 (n : Word) (s : State) : Host.Outcome State Fault Refusal :=
  .next (jpIf .c n s)

/-- CALL C,n16 (44_control.md R367). -/
def execCallCN16 (n : Word) (s : State) : Host.Outcome State Fault Refusal :=
  .next (callIf .c n s)

/-- RST 0x18 (44_control.md R370). -/
def execRst18 (s : State) : Host.Outcome State Fault Refusal :=
  .next (rst 3 s)

/-- RST 0x20 (44_control.md R370). -/
def execRst20 (s : State) : Host.Outcome State Fault Refusal :=
  .next (rst 4 s)

/-- JP HL (44_control.md R363). -/
def execJpHl (s : State) : Host.Outcome State Fault Refusal :=
  .next (mapCpu (fun c => c.setPc c.hl) s)

/-- RST 0x28 (44_control.md R370). -/
def execRst28 (s : State) : Host.Outcome State Fault Refusal :=
  .next (rst 5 s)

/-- RST 0x30 (44_control.md R370). -/
def execRst30 (s : State) : Host.Outcome State Fault Refusal :=
  .next (rst 6 s)

/-- RST 0x38 (44_control.md R370). -/
def execRst38 (s : State) : Host.Outcome State Fault Refusal :=
  .next (rst 7 s)

end Sys2Proof.Machine
end

