-- ==== Sys2Proof/Machine/Loads.lean ====
section
/-! DEFINITION. The meanings of the loads, stores and stack transfers (spec/40_loads.md). -/

namespace Sys2Proof.Machine

/-- LD r,r', LD r,(HL), LD (HL),r (40_loads.md R200, R202, R203). -/
def ld (dst src : Opnd8) (s : State) : State :=
  let r := readOpnd src s
  writeOpnd dst r.1 r.2

/-- LD A,(BC), (DE), (HL+), (HL-) (40_loads.md R205, R207, R208). -/
def ldAPtr (p : Rpm) (s : State) : State :=
  let r := memRead s (s.cpu.ptr p)
  mapCpu (fun c => (c.setReg8 .a r.1).bumpPtr p) r.2

/-- LD (BC),A, (DE), (HL+), (HL-) (40_loads.md R206, R209, R210). -/
def ldPtrA (p : Rpm) (s : State) : State :=
  mapCpu (Cpu.bumpPtr p) (memWrite s (s.cpu.ptr p) s.cpu.a)

/-- LD rr,n16 (40_loads.md R211). -/
def ldRp (p : Rp) (n : Word) (s : State) : State := mapCpu (Cpu.setRp p n) s

/-- LD (n16),SP: the low byte first, at the lower address (40_loads.md R212). -/
def ldIndSp (n : Word) (s : State) : State :=
  memWrite (memWrite s n (loByte s.cpu.sp)) (n + 1) (hiByte s.cpu.sp)

/-- LD SP,HL (40_loads.md R219). -/
def ldSpHl (s : State) : State := mapCpu (fun c => c.setSp c.hl) (idle s)

/-- LD A,(n16), LDH A,(n8), LDH A,(C) (40_loads.md R213, R215, R217). -/
def ldAAddr (a : Word) (s : State) : State :=
  let r := memRead s a
  mapCpu (Cpu.setReg8 .a r.1) r.2

/-- LD (n16),A, LDH (n8),A, LDH (C),A (40_loads.md R214, R216, R218). -/
def ldAddrA (a : Word) (s : State) : State := memWrite s a s.cpu.a

/-- PUSH rr, PUSH AF (40_loads.md R220, R221). -/
def push (p : Rp2) (s : State) : State := push16 (s.cpu.rp2 p) (idle s)

/-- POP rr, POP AF; AF's flags are masked (40_loads.md R223, R224). -/
def pop (p : Rp2) (s : State) : State :=
  let r := pop16 s
  mapCpu (Cpu.setRp2 p r.1) r.2

/-- LD BC,n16 (40_loads.md R211). -/
def execLdBcN16 (n : Word) (s : State) : Host.Outcome State Fault Refusal :=
  .next (ldRp .bc n s)

/-- LD (BC),A (40_loads.md R206). -/
def execLdIndBcA (s : State) : Host.Outcome State Fault Refusal :=
  .next (ldPtrA .bc s)

/-- LD B,n8 (40_loads.md R201). -/
def execLdBN8 (n : Byte) (s : State) : Host.Outcome State Fault Refusal :=
  .next (writeOpnd (.reg .b) n s)

/-- LD (n16),SP (40_loads.md R212). -/
def execLdIndN16Sp (n : Word) (s : State) : Host.Outcome State Fault Refusal :=
  .next (ldIndSp n s)

/-- LD A,(BC) (40_loads.md R205). -/
def execLdAIndBc (s : State) : Host.Outcome State Fault Refusal :=
  .next (ldAPtr .bc s)

/-- LD C,n8 (40_loads.md R201). -/
def execLdCN8 (n : Byte) (s : State) : Host.Outcome State Fault Refusal :=
  .next (writeOpnd (.reg .c) n s)

/-- LD DE,n16 (40_loads.md R211). -/
def execLdDeN16 (n : Word) (s : State) : Host.Outcome State Fault Refusal :=
  .next (ldRp .de n s)

/-- LD (DE),A (40_loads.md R206). -/
def execLdIndDeA (s : State) : Host.Outcome State Fault Refusal :=
  .next (ldPtrA .de s)

/-- LD D,n8 (40_loads.md R201). -/
def execLdDN8 (n : Byte) (s : State) : Host.Outcome State Fault Refusal :=
  .next (writeOpnd (.reg .d) n s)

/-- LD A,(DE) (40_loads.md R205). -/
def execLdAIndDe (s : State) : Host.Outcome State Fault Refusal :=
  .next (ldAPtr .de s)

/-- LD E,n8 (40_loads.md R201). -/
def execLdEN8 (n : Byte) (s : State) : Host.Outcome State Fault Refusal :=
  .next (writeOpnd (.reg .e) n s)

/-- LD HL,n16 (40_loads.md R211). -/
def execLdHlN16 (n : Word) (s : State) : Host.Outcome State Fault Refusal :=
  .next (ldRp .hl n s)

/-- LD (HL+),A (40_loads.md R209). -/
def execLdIndHliA (s : State) : Host.Outcome State Fault Refusal :=
  .next (ldPtrA .hli s)

/-- LD H,n8 (40_loads.md R201). -/
def execLdHN8 (n : Byte) (s : State) : Host.Outcome State Fault Refusal :=
  .next (writeOpnd (.reg .h) n s)

/-- LD A,(HL+) (40_loads.md R207). -/
def execLdAIndHli (s : State) : Host.Outcome State Fault Refusal :=
  .next (ldAPtr .hli s)

/-- LD L,n8 (40_loads.md R201). -/
def execLdLN8 (n : Byte) (s : State) : Host.Outcome State Fault Refusal :=
  .next (writeOpnd (.reg .l) n s)

/-- LD SP,n16 (40_loads.md R211). -/
def execLdSpN16 (n : Word) (s : State) : Host.Outcome State Fault Refusal :=
  .next (ldRp .sp n s)

/-- LD (HL-),A (40_loads.md R210). -/
def execLdIndHldA (s : State) : Host.Outcome State Fault Refusal :=
  .next (ldPtrA .hld s)

/-- LD (HL),n8 (40_loads.md R204). -/
def execLdIndHlN8 (n : Byte) (s : State) : Host.Outcome State Fault Refusal :=
  .next (writeOpnd .indHl n s)

/-- LD A,(HL-) (40_loads.md R208). -/
def execLdAIndHld (s : State) : Host.Outcome State Fault Refusal :=
  .next (ldAPtr .hld s)

/-- LD A,n8 (40_loads.md R201). -/
def execLdAN8 (n : Byte) (s : State) : Host.Outcome State Fault Refusal :=
  .next (writeOpnd (.reg .a) n s)

/-- LD B,B (40_loads.md R200). -/
def execLdBB (s : State) : Host.Outcome State Fault Refusal :=
  .next (ld (.reg .b) (.reg .b) s)

/-- LD B,C (40_loads.md R200). -/
def execLdBC (s : State) : Host.Outcome State Fault Refusal :=
  .next (ld (.reg .b) (.reg .c) s)

/-- LD B,D (40_loads.md R200). -/
def execLdBD (s : State) : Host.Outcome State Fault Refusal :=
  .next (ld (.reg .b) (.reg .d) s)

/-- LD B,E (40_loads.md R200). -/
def execLdBE (s : State) : Host.Outcome State Fault Refusal :=
  .next (ld (.reg .b) (.reg .e) s)

/-- LD B,H (40_loads.md R200). -/
def execLdBH (s : State) : Host.Outcome State Fault Refusal :=
  .next (ld (.reg .b) (.reg .h) s)

/-- LD B,L (40_loads.md R200). -/
def execLdBL (s : State) : Host.Outcome State Fault Refusal :=
  .next (ld (.reg .b) (.reg .l) s)

/-- LD B,(HL) (40_loads.md R202). -/
def execLdBIndHl (s : State) : Host.Outcome State Fault Refusal :=
  .next (ld (.reg .b) .indHl s)

/-- LD B,A (40_loads.md R200). -/
def execLdBA (s : State) : Host.Outcome State Fault Refusal :=
  .next (ld (.reg .b) (.reg .a) s)

/-- LD C,B (40_loads.md R200). -/
def execLdCB (s : State) : Host.Outcome State Fault Refusal :=
  .next (ld (.reg .c) (.reg .b) s)

/-- LD C,C (40_loads.md R200). -/
def execLdCC (s : State) : Host.Outcome State Fault Refusal :=
  .next (ld (.reg .c) (.reg .c) s)

/-- LD C,D (40_loads.md R200). -/
def execLdCD (s : State) : Host.Outcome State Fault Refusal :=
  .next (ld (.reg .c) (.reg .d) s)

/-- LD C,E (40_loads.md R200). -/
def execLdCE (s : State) : Host.Outcome State Fault Refusal :=
  .next (ld (.reg .c) (.reg .e) s)

/-- LD C,H (40_loads.md R200). -/
def execLdCH (s : State) : Host.Outcome State Fault Refusal :=
  .next (ld (.reg .c) (.reg .h) s)

/-- LD C,L (40_loads.md R200). -/
def execLdCL (s : State) : Host.Outcome State Fault Refusal :=
  .next (ld (.reg .c) (.reg .l) s)

/-- LD C,(HL) (40_loads.md R202). -/
def execLdCIndHl (s : State) : Host.Outcome State Fault Refusal :=
  .next (ld (.reg .c) .indHl s)

/-- LD C,A (40_loads.md R200). -/
def execLdCA (s : State) : Host.Outcome State Fault Refusal :=
  .next (ld (.reg .c) (.reg .a) s)

/-- LD D,B (40_loads.md R200). -/
def execLdDB (s : State) : Host.Outcome State Fault Refusal :=
  .next (ld (.reg .d) (.reg .b) s)

/-- LD D,C (40_loads.md R200). -/
def execLdDC (s : State) : Host.Outcome State Fault Refusal :=
  .next (ld (.reg .d) (.reg .c) s)

/-- LD D,D (40_loads.md R200). -/
def execLdDD (s : State) : Host.Outcome State Fault Refusal :=
  .next (ld (.reg .d) (.reg .d) s)

/-- LD D,E (40_loads.md R200). -/
def execLdDE (s : State) : Host.Outcome State Fault Refusal :=
  .next (ld (.reg .d) (.reg .e) s)

/-- LD D,H (40_loads.md R200). -/
def execLdDH (s : State) : Host.Outcome State Fault Refusal :=
  .next (ld (.reg .d) (.reg .h) s)

/-- LD D,L (40_loads.md R200). -/
def execLdDL (s : State) : Host.Outcome State Fault Refusal :=
  .next (ld (.reg .d) (.reg .l) s)

/-- LD D,(HL) (40_loads.md R202). -/
def execLdDIndHl (s : State) : Host.Outcome State Fault Refusal :=
  .next (ld (.reg .d) .indHl s)

/-- LD D,A (40_loads.md R200). -/
def execLdDA (s : State) : Host.Outcome State Fault Refusal :=
  .next (ld (.reg .d) (.reg .a) s)

/-- LD E,B (40_loads.md R200). -/
def execLdEB (s : State) : Host.Outcome State Fault Refusal :=
  .next (ld (.reg .e) (.reg .b) s)

/-- LD E,C (40_loads.md R200). -/
def execLdEC (s : State) : Host.Outcome State Fault Refusal :=
  .next (ld (.reg .e) (.reg .c) s)

/-- LD E,D (40_loads.md R200). -/
def execLdED (s : State) : Host.Outcome State Fault Refusal :=
  .next (ld (.reg .e) (.reg .d) s)

/-- LD E,E (40_loads.md R200). -/
def execLdEE (s : State) : Host.Outcome State Fault Refusal :=
  .next (ld (.reg .e) (.reg .e) s)

/-- LD E,H (40_loads.md R200). -/
def execLdEH (s : State) : Host.Outcome State Fault Refusal :=
  .next (ld (.reg .e) (.reg .h) s)

/-- LD E,L (40_loads.md R200). -/
def execLdEL (s : State) : Host.Outcome State Fault Refusal :=
  .next (ld (.reg .e) (.reg .l) s)

/-- LD E,(HL) (40_loads.md R202). -/
def execLdEIndHl (s : State) : Host.Outcome State Fault Refusal :=
  .next (ld (.reg .e) .indHl s)

/-- LD E,A (40_loads.md R200). -/
def execLdEA (s : State) : Host.Outcome State Fault Refusal :=
  .next (ld (.reg .e) (.reg .a) s)

/-- LD H,B (40_loads.md R200). -/
def execLdHB (s : State) : Host.Outcome State Fault Refusal :=
  .next (ld (.reg .h) (.reg .b) s)

/-- LD H,C (40_loads.md R200). -/
def execLdHC (s : State) : Host.Outcome State Fault Refusal :=
  .next (ld (.reg .h) (.reg .c) s)

/-- LD H,D (40_loads.md R200). -/
def execLdHD (s : State) : Host.Outcome State Fault Refusal :=
  .next (ld (.reg .h) (.reg .d) s)

/-- LD H,E (40_loads.md R200). -/
def execLdHE (s : State) : Host.Outcome State Fault Refusal :=
  .next (ld (.reg .h) (.reg .e) s)

/-- LD H,H (40_loads.md R200). -/
def execLdHH (s : State) : Host.Outcome State Fault Refusal :=
  .next (ld (.reg .h) (.reg .h) s)

/-- LD H,L (40_loads.md R200). -/
def execLdHL (s : State) : Host.Outcome State Fault Refusal :=
  .next (ld (.reg .h) (.reg .l) s)

/-- LD H,(HL) (40_loads.md R202). -/
def execLdHIndHl (s : State) : Host.Outcome State Fault Refusal :=
  .next (ld (.reg .h) .indHl s)

/-- LD H,A (40_loads.md R200). -/
def execLdHA (s : State) : Host.Outcome State Fault Refusal :=
  .next (ld (.reg .h) (.reg .a) s)

/-- LD L,B (40_loads.md R200). -/
def execLdLB (s : State) : Host.Outcome State Fault Refusal :=
  .next (ld (.reg .l) (.reg .b) s)

/-- LD L,C (40_loads.md R200). -/
def execLdLC (s : State) : Host.Outcome State Fault Refusal :=
  .next (ld (.reg .l) (.reg .c) s)

/-- LD L,D (40_loads.md R200). -/
def execLdLD (s : State) : Host.Outcome State Fault Refusal :=
  .next (ld (.reg .l) (.reg .d) s)

/-- LD L,E (40_loads.md R200). -/
def execLdLE (s : State) : Host.Outcome State Fault Refusal :=
  .next (ld (.reg .l) (.reg .e) s)

/-- LD L,H (40_loads.md R200). -/
def execLdLH (s : State) : Host.Outcome State Fault Refusal :=
  .next (ld (.reg .l) (.reg .h) s)

/-- LD L,L (40_loads.md R200). -/
def execLdLL (s : State) : Host.Outcome State Fault Refusal :=
  .next (ld (.reg .l) (.reg .l) s)

/-- LD L,(HL) (40_loads.md R202). -/
def execLdLIndHl (s : State) : Host.Outcome State Fault Refusal :=
  .next (ld (.reg .l) .indHl s)

/-- LD L,A (40_loads.md R200). -/
def execLdLA (s : State) : Host.Outcome State Fault Refusal :=
  .next (ld (.reg .l) (.reg .a) s)

/-- LD (HL),B (40_loads.md R203). -/
def execLdIndHlB (s : State) : Host.Outcome State Fault Refusal :=
  .next (ld .indHl (.reg .b) s)

/-- LD (HL),C (40_loads.md R203). -/
def execLdIndHlC (s : State) : Host.Outcome State Fault Refusal :=
  .next (ld .indHl (.reg .c) s)

/-- LD (HL),D (40_loads.md R203). -/
def execLdIndHlD (s : State) : Host.Outcome State Fault Refusal :=
  .next (ld .indHl (.reg .d) s)

/-- LD (HL),E (40_loads.md R203). -/
def execLdIndHlE (s : State) : Host.Outcome State Fault Refusal :=
  .next (ld .indHl (.reg .e) s)

/-- LD (HL),H (40_loads.md R203). -/
def execLdIndHlH (s : State) : Host.Outcome State Fault Refusal :=
  .next (ld .indHl (.reg .h) s)

/-- LD (HL),L (40_loads.md R203). -/
def execLdIndHlL (s : State) : Host.Outcome State Fault Refusal :=
  .next (ld .indHl (.reg .l) s)

/-- LD (HL),A (40_loads.md R203). -/
def execLdIndHlA (s : State) : Host.Outcome State Fault Refusal :=
  .next (ld .indHl (.reg .a) s)

/-- LD A,B (40_loads.md R200). -/
def execLdAB (s : State) : Host.Outcome State Fault Refusal :=
  .next (ld (.reg .a) (.reg .b) s)

/-- LD A,C (40_loads.md R200). -/
def execLdAC (s : State) : Host.Outcome State Fault Refusal :=
  .next (ld (.reg .a) (.reg .c) s)

/-- LD A,D (40_loads.md R200). -/
def execLdAD (s : State) : Host.Outcome State Fault Refusal :=
  .next (ld (.reg .a) (.reg .d) s)

/-- LD A,E (40_loads.md R200). -/
def execLdAE (s : State) : Host.Outcome State Fault Refusal :=
  .next (ld (.reg .a) (.reg .e) s)

/-- LD A,H (40_loads.md R200). -/
def execLdAH (s : State) : Host.Outcome State Fault Refusal :=
  .next (ld (.reg .a) (.reg .h) s)

/-- LD A,L (40_loads.md R200). -/
def execLdAL (s : State) : Host.Outcome State Fault Refusal :=
  .next (ld (.reg .a) (.reg .l) s)

/-- LD A,(HL) (40_loads.md R202). -/
def execLdAIndHl (s : State) : Host.Outcome State Fault Refusal :=
  .next (ld (.reg .a) .indHl s)

/-- LD A,A (40_loads.md R200). -/
def execLdAA (s : State) : Host.Outcome State Fault Refusal :=
  .next (ld (.reg .a) (.reg .a) s)

/-- POP BC (40_loads.md R223). -/
def execPopBc (s : State) : Host.Outcome State Fault Refusal :=
  .next (pop .bc s)

/-- PUSH BC (40_loads.md R220). -/
def execPushBc (s : State) : Host.Outcome State Fault Refusal :=
  .next (push .bc s)

/-- POP DE (40_loads.md R223). -/
def execPopDe (s : State) : Host.Outcome State Fault Refusal :=
  .next (pop .de s)

/-- PUSH DE (40_loads.md R220). -/
def execPushDe (s : State) : Host.Outcome State Fault Refusal :=
  .next (push .de s)

/-- LDH (n8),A (40_loads.md R216). -/
def execLdhIndN8A (n : Byte) (s : State) : Host.Outcome State Fault Refusal :=
  .next (ldAddrA (highPage n) s)

/-- POP HL (40_loads.md R223). -/
def execPopHl (s : State) : Host.Outcome State Fault Refusal :=
  .next (pop .hl s)

/-- LDH (C),A (40_loads.md R218). -/
def execLdhIndCA (s : State) : Host.Outcome State Fault Refusal :=
  .next (ldAddrA (highPage s.cpu.c) s)

/-- PUSH HL (40_loads.md R220). -/
def execPushHl (s : State) : Host.Outcome State Fault Refusal :=
  .next (push .hl s)

/-- LD (n16),A (40_loads.md R214). -/
def execLdIndN16A (n : Word) (s : State) : Host.Outcome State Fault Refusal :=
  .next (ldAddrA n s)

/-- LDH A,(n8) (40_loads.md R215). -/
def execLdhAIndN8 (n : Byte) (s : State) : Host.Outcome State Fault Refusal :=
  .next (ldAAddr (highPage n) s)

/-- POP AF (40_loads.md R224). -/
def execPopAf (s : State) : Host.Outcome State Fault Refusal :=
  .next (pop .af s)

/-- LDH A,(C) (40_loads.md R217). -/
def execLdhAIndC (s : State) : Host.Outcome State Fault Refusal :=
  .next (ldAAddr (highPage s.cpu.c) s)

/-- PUSH AF (40_loads.md R221). -/
def execPushAf (s : State) : Host.Outcome State Fault Refusal :=
  .next (push .af s)

/-- LD SP,HL (40_loads.md R219). -/
def execLdSpHl (s : State) : Host.Outcome State Fault Refusal :=
  .next (ldSpHl s)

/-- LD A,(n16) (40_loads.md R213). -/
def execLdAIndN16 (n : Word) (s : State) : Host.Outcome State Fault Refusal :=
  .next (ldAAddr n s)

end Sys2Proof.Machine
end

