-- ==== Sys2Proof/Machine/Shifts.lean ====
section
/-! DEFINITION. The meanings of the rotates, shifts and bit operations (spec/43_rotate_shift_bit.md). -/

namespace Sys2Proof.Machine

/-- The CB rotates, shifts and SWAP (43_rotate_shift_bit.md R325 to R340). -/
def shiftOpnd (op : ShiftOp) (o : Opnd8) (s : State) : State :=
  let r := readOpnd o s
  let q := shiftResult op r.1 (flagC s.cpu.f)
  mapCpu (Cpu.setF (shiftFlags q.1 q.2)) (writeOpnd o q.1 r.2)

/-- BIT b,r and BIT b,(HL): read only (43_rotate_shift_bit.md R341, R342). -/
def bitOpnd (b : Fin 8) (o : Opnd8) (s : State) : State :=
  let r := readOpnd o s
  mapCpu (fun c => c.setF (bitFlags r.1 b c.f)) r.2

/-- RES b,r and RES b,(HL) (43_rotate_shift_bit.md R343, R344). -/
def resOpnd (b : Fin 8) (o : Opnd8) (s : State) : State :=
  let r := readOpnd o s
  writeOpnd o (resBit r.1 b) r.2

/-- SET b,r and SET b,(HL) (43_rotate_shift_bit.md R345, R346). -/
def setOpnd (b : Fin 8) (o : Opnd8) (s : State) : State :=
  let r := readOpnd o s
  writeOpnd o (setBit r.1 b) r.2

/-- RLCA (43_rotate_shift_bit.md R320). -/
def execRlca (s : State) : Host.Outcome State Fault Refusal :=
  .next (mapCpu (Cpu.rotateA .rlc) s)

/-- RRCA (43_rotate_shift_bit.md R321). -/
def execRrca (s : State) : Host.Outcome State Fault Refusal :=
  .next (mapCpu (Cpu.rotateA .rrc) s)

/-- RLA (43_rotate_shift_bit.md R322). -/
def execRla (s : State) : Host.Outcome State Fault Refusal :=
  .next (mapCpu (Cpu.rotateA .rl) s)

/-- RRA (43_rotate_shift_bit.md R323). -/
def execRra (s : State) : Host.Outcome State Fault Refusal :=
  .next (mapCpu (Cpu.rotateA .rr) s)

/-- RLC B (43_rotate_shift_bit.md R325). -/
def execRlcB (s : State) : Host.Outcome State Fault Refusal :=
  .next (shiftOpnd .rlc (.reg .b) s)

/-- RLC C (43_rotate_shift_bit.md R325). -/
def execRlcC (s : State) : Host.Outcome State Fault Refusal :=
  .next (shiftOpnd .rlc (.reg .c) s)

/-- RLC D (43_rotate_shift_bit.md R325). -/
def execRlcD (s : State) : Host.Outcome State Fault Refusal :=
  .next (shiftOpnd .rlc (.reg .d) s)

/-- RLC E (43_rotate_shift_bit.md R325). -/
def execRlcE (s : State) : Host.Outcome State Fault Refusal :=
  .next (shiftOpnd .rlc (.reg .e) s)

/-- RLC H (43_rotate_shift_bit.md R325). -/
def execRlcH (s : State) : Host.Outcome State Fault Refusal :=
  .next (shiftOpnd .rlc (.reg .h) s)

/-- RLC L (43_rotate_shift_bit.md R325). -/
def execRlcL (s : State) : Host.Outcome State Fault Refusal :=
  .next (shiftOpnd .rlc (.reg .l) s)

/-- RLC (HL) (43_rotate_shift_bit.md R326). -/
def execRlcIndHl (s : State) : Host.Outcome State Fault Refusal :=
  .next (shiftOpnd .rlc .indHl s)

/-- RLC A (43_rotate_shift_bit.md R325). -/
def execRlcA (s : State) : Host.Outcome State Fault Refusal :=
  .next (shiftOpnd .rlc (.reg .a) s)

/-- RRC B (43_rotate_shift_bit.md R327). -/
def execRrcB (s : State) : Host.Outcome State Fault Refusal :=
  .next (shiftOpnd .rrc (.reg .b) s)

/-- RRC C (43_rotate_shift_bit.md R327). -/
def execRrcC (s : State) : Host.Outcome State Fault Refusal :=
  .next (shiftOpnd .rrc (.reg .c) s)

/-- RRC D (43_rotate_shift_bit.md R327). -/
def execRrcD (s : State) : Host.Outcome State Fault Refusal :=
  .next (shiftOpnd .rrc (.reg .d) s)

/-- RRC E (43_rotate_shift_bit.md R327). -/
def execRrcE (s : State) : Host.Outcome State Fault Refusal :=
  .next (shiftOpnd .rrc (.reg .e) s)

/-- RRC H (43_rotate_shift_bit.md R327). -/
def execRrcH (s : State) : Host.Outcome State Fault Refusal :=
  .next (shiftOpnd .rrc (.reg .h) s)

/-- RRC L (43_rotate_shift_bit.md R327). -/
def execRrcL (s : State) : Host.Outcome State Fault Refusal :=
  .next (shiftOpnd .rrc (.reg .l) s)

/-- RRC (HL) (43_rotate_shift_bit.md R328). -/
def execRrcIndHl (s : State) : Host.Outcome State Fault Refusal :=
  .next (shiftOpnd .rrc .indHl s)

/-- RRC A (43_rotate_shift_bit.md R327). -/
def execRrcA (s : State) : Host.Outcome State Fault Refusal :=
  .next (shiftOpnd .rrc (.reg .a) s)

/-- RL B (43_rotate_shift_bit.md R329). -/
def execRlB (s : State) : Host.Outcome State Fault Refusal :=
  .next (shiftOpnd .rl (.reg .b) s)

/-- RL C (43_rotate_shift_bit.md R329). -/
def execRlC (s : State) : Host.Outcome State Fault Refusal :=
  .next (shiftOpnd .rl (.reg .c) s)

/-- RL D (43_rotate_shift_bit.md R329). -/
def execRlD (s : State) : Host.Outcome State Fault Refusal :=
  .next (shiftOpnd .rl (.reg .d) s)

/-- RL E (43_rotate_shift_bit.md R329). -/
def execRlE (s : State) : Host.Outcome State Fault Refusal :=
  .next (shiftOpnd .rl (.reg .e) s)

/-- RL H (43_rotate_shift_bit.md R329). -/
def execRlH (s : State) : Host.Outcome State Fault Refusal :=
  .next (shiftOpnd .rl (.reg .h) s)

/-- RL L (43_rotate_shift_bit.md R329). -/
def execRlL (s : State) : Host.Outcome State Fault Refusal :=
  .next (shiftOpnd .rl (.reg .l) s)

/-- RL (HL) (43_rotate_shift_bit.md R330). -/
def execRlIndHl (s : State) : Host.Outcome State Fault Refusal :=
  .next (shiftOpnd .rl .indHl s)

/-- RL A (43_rotate_shift_bit.md R329). -/
def execRlA (s : State) : Host.Outcome State Fault Refusal :=
  .next (shiftOpnd .rl (.reg .a) s)

/-- RR B (43_rotate_shift_bit.md R331). -/
def execRrB (s : State) : Host.Outcome State Fault Refusal :=
  .next (shiftOpnd .rr (.reg .b) s)

/-- RR C (43_rotate_shift_bit.md R331). -/
def execRrC (s : State) : Host.Outcome State Fault Refusal :=
  .next (shiftOpnd .rr (.reg .c) s)

/-- RR D (43_rotate_shift_bit.md R331). -/
def execRrD (s : State) : Host.Outcome State Fault Refusal :=
  .next (shiftOpnd .rr (.reg .d) s)

/-- RR E (43_rotate_shift_bit.md R331). -/
def execRrE (s : State) : Host.Outcome State Fault Refusal :=
  .next (shiftOpnd .rr (.reg .e) s)

/-- RR H (43_rotate_shift_bit.md R331). -/
def execRrH (s : State) : Host.Outcome State Fault Refusal :=
  .next (shiftOpnd .rr (.reg .h) s)

/-- RR L (43_rotate_shift_bit.md R331). -/
def execRrL (s : State) : Host.Outcome State Fault Refusal :=
  .next (shiftOpnd .rr (.reg .l) s)

/-- RR (HL) (43_rotate_shift_bit.md R332). -/
def execRrIndHl (s : State) : Host.Outcome State Fault Refusal :=
  .next (shiftOpnd .rr .indHl s)

/-- RR A (43_rotate_shift_bit.md R331). -/
def execRrA (s : State) : Host.Outcome State Fault Refusal :=
  .next (shiftOpnd .rr (.reg .a) s)

/-- SLA B (43_rotate_shift_bit.md R333). -/
def execSlaB (s : State) : Host.Outcome State Fault Refusal :=
  .next (shiftOpnd .sla (.reg .b) s)

/-- SLA C (43_rotate_shift_bit.md R333). -/
def execSlaC (s : State) : Host.Outcome State Fault Refusal :=
  .next (shiftOpnd .sla (.reg .c) s)

/-- SLA D (43_rotate_shift_bit.md R333). -/
def execSlaD (s : State) : Host.Outcome State Fault Refusal :=
  .next (shiftOpnd .sla (.reg .d) s)

/-- SLA E (43_rotate_shift_bit.md R333). -/
def execSlaE (s : State) : Host.Outcome State Fault Refusal :=
  .next (shiftOpnd .sla (.reg .e) s)

/-- SLA H (43_rotate_shift_bit.md R333). -/
def execSlaH (s : State) : Host.Outcome State Fault Refusal :=
  .next (shiftOpnd .sla (.reg .h) s)

/-- SLA L (43_rotate_shift_bit.md R333). -/
def execSlaL (s : State) : Host.Outcome State Fault Refusal :=
  .next (shiftOpnd .sla (.reg .l) s)

/-- SLA (HL) (43_rotate_shift_bit.md R334). -/
def execSlaIndHl (s : State) : Host.Outcome State Fault Refusal :=
  .next (shiftOpnd .sla .indHl s)

/-- SLA A (43_rotate_shift_bit.md R333). -/
def execSlaA (s : State) : Host.Outcome State Fault Refusal :=
  .next (shiftOpnd .sla (.reg .a) s)

/-- SRA B (43_rotate_shift_bit.md R335). -/
def execSraB (s : State) : Host.Outcome State Fault Refusal :=
  .next (shiftOpnd .sra (.reg .b) s)

/-- SRA C (43_rotate_shift_bit.md R335). -/
def execSraC (s : State) : Host.Outcome State Fault Refusal :=
  .next (shiftOpnd .sra (.reg .c) s)

/-- SRA D (43_rotate_shift_bit.md R335). -/
def execSraD (s : State) : Host.Outcome State Fault Refusal :=
  .next (shiftOpnd .sra (.reg .d) s)

/-- SRA E (43_rotate_shift_bit.md R335). -/
def execSraE (s : State) : Host.Outcome State Fault Refusal :=
  .next (shiftOpnd .sra (.reg .e) s)

/-- SRA H (43_rotate_shift_bit.md R335). -/
def execSraH (s : State) : Host.Outcome State Fault Refusal :=
  .next (shiftOpnd .sra (.reg .h) s)

/-- SRA L (43_rotate_shift_bit.md R335). -/
def execSraL (s : State) : Host.Outcome State Fault Refusal :=
  .next (shiftOpnd .sra (.reg .l) s)

/-- SRA (HL) (43_rotate_shift_bit.md R336). -/
def execSraIndHl (s : State) : Host.Outcome State Fault Refusal :=
  .next (shiftOpnd .sra .indHl s)

/-- SRA A (43_rotate_shift_bit.md R335). -/
def execSraA (s : State) : Host.Outcome State Fault Refusal :=
  .next (shiftOpnd .sra (.reg .a) s)

/-- SWAP B (43_rotate_shift_bit.md R337). -/
def execSwapB (s : State) : Host.Outcome State Fault Refusal :=
  .next (shiftOpnd .swap (.reg .b) s)

/-- SWAP C (43_rotate_shift_bit.md R337). -/
def execSwapC (s : State) : Host.Outcome State Fault Refusal :=
  .next (shiftOpnd .swap (.reg .c) s)

/-- SWAP D (43_rotate_shift_bit.md R337). -/
def execSwapD (s : State) : Host.Outcome State Fault Refusal :=
  .next (shiftOpnd .swap (.reg .d) s)

/-- SWAP E (43_rotate_shift_bit.md R337). -/
def execSwapE (s : State) : Host.Outcome State Fault Refusal :=
  .next (shiftOpnd .swap (.reg .e) s)

/-- SWAP H (43_rotate_shift_bit.md R337). -/
def execSwapH (s : State) : Host.Outcome State Fault Refusal :=
  .next (shiftOpnd .swap (.reg .h) s)

/-- SWAP L (43_rotate_shift_bit.md R337). -/
def execSwapL (s : State) : Host.Outcome State Fault Refusal :=
  .next (shiftOpnd .swap (.reg .l) s)

/-- SWAP (HL) (43_rotate_shift_bit.md R338). -/
def execSwapIndHl (s : State) : Host.Outcome State Fault Refusal :=
  .next (shiftOpnd .swap .indHl s)

/-- SWAP A (43_rotate_shift_bit.md R337). -/
def execSwapA (s : State) : Host.Outcome State Fault Refusal :=
  .next (shiftOpnd .swap (.reg .a) s)

/-- SRL B (43_rotate_shift_bit.md R339). -/
def execSrlB (s : State) : Host.Outcome State Fault Refusal :=
  .next (shiftOpnd .srl (.reg .b) s)

/-- SRL C (43_rotate_shift_bit.md R339). -/
def execSrlC (s : State) : Host.Outcome State Fault Refusal :=
  .next (shiftOpnd .srl (.reg .c) s)

/-- SRL D (43_rotate_shift_bit.md R339). -/
def execSrlD (s : State) : Host.Outcome State Fault Refusal :=
  .next (shiftOpnd .srl (.reg .d) s)

/-- SRL E (43_rotate_shift_bit.md R339). -/
def execSrlE (s : State) : Host.Outcome State Fault Refusal :=
  .next (shiftOpnd .srl (.reg .e) s)

/-- SRL H (43_rotate_shift_bit.md R339). -/
def execSrlH (s : State) : Host.Outcome State Fault Refusal :=
  .next (shiftOpnd .srl (.reg .h) s)

/-- SRL L (43_rotate_shift_bit.md R339). -/
def execSrlL (s : State) : Host.Outcome State Fault Refusal :=
  .next (shiftOpnd .srl (.reg .l) s)

/-- SRL (HL) (43_rotate_shift_bit.md R340). -/
def execSrlIndHl (s : State) : Host.Outcome State Fault Refusal :=
  .next (shiftOpnd .srl .indHl s)

/-- SRL A (43_rotate_shift_bit.md R339). -/
def execSrlA (s : State) : Host.Outcome State Fault Refusal :=
  .next (shiftOpnd .srl (.reg .a) s)

/-- BIT 0,B (43_rotate_shift_bit.md R341). -/
def execBit0B (s : State) : Host.Outcome State Fault Refusal :=
  .next (bitOpnd 0 (.reg .b) s)

/-- BIT 0,C (43_rotate_shift_bit.md R341). -/
def execBit0C (s : State) : Host.Outcome State Fault Refusal :=
  .next (bitOpnd 0 (.reg .c) s)

/-- BIT 0,D (43_rotate_shift_bit.md R341). -/
def execBit0D (s : State) : Host.Outcome State Fault Refusal :=
  .next (bitOpnd 0 (.reg .d) s)

/-- BIT 0,E (43_rotate_shift_bit.md R341). -/
def execBit0E (s : State) : Host.Outcome State Fault Refusal :=
  .next (bitOpnd 0 (.reg .e) s)

/-- BIT 0,H (43_rotate_shift_bit.md R341). -/
def execBit0H (s : State) : Host.Outcome State Fault Refusal :=
  .next (bitOpnd 0 (.reg .h) s)

/-- BIT 0,L (43_rotate_shift_bit.md R341). -/
def execBit0L (s : State) : Host.Outcome State Fault Refusal :=
  .next (bitOpnd 0 (.reg .l) s)

/-- BIT 0,(HL) (43_rotate_shift_bit.md R342). -/
def execBit0IndHl (s : State) : Host.Outcome State Fault Refusal :=
  .next (bitOpnd 0 .indHl s)

/-- BIT 0,A (43_rotate_shift_bit.md R341). -/
def execBit0A (s : State) : Host.Outcome State Fault Refusal :=
  .next (bitOpnd 0 (.reg .a) s)

/-- BIT 1,B (43_rotate_shift_bit.md R341). -/
def execBit1B (s : State) : Host.Outcome State Fault Refusal :=
  .next (bitOpnd 1 (.reg .b) s)

/-- BIT 1,C (43_rotate_shift_bit.md R341). -/
def execBit1C (s : State) : Host.Outcome State Fault Refusal :=
  .next (bitOpnd 1 (.reg .c) s)

/-- BIT 1,D (43_rotate_shift_bit.md R341). -/
def execBit1D (s : State) : Host.Outcome State Fault Refusal :=
  .next (bitOpnd 1 (.reg .d) s)

/-- BIT 1,E (43_rotate_shift_bit.md R341). -/
def execBit1E (s : State) : Host.Outcome State Fault Refusal :=
  .next (bitOpnd 1 (.reg .e) s)

/-- BIT 1,H (43_rotate_shift_bit.md R341). -/
def execBit1H (s : State) : Host.Outcome State Fault Refusal :=
  .next (bitOpnd 1 (.reg .h) s)

/-- BIT 1,L (43_rotate_shift_bit.md R341). -/
def execBit1L (s : State) : Host.Outcome State Fault Refusal :=
  .next (bitOpnd 1 (.reg .l) s)

/-- BIT 1,(HL) (43_rotate_shift_bit.md R342). -/
def execBit1IndHl (s : State) : Host.Outcome State Fault Refusal :=
  .next (bitOpnd 1 .indHl s)

/-- BIT 1,A (43_rotate_shift_bit.md R341). -/
def execBit1A (s : State) : Host.Outcome State Fault Refusal :=
  .next (bitOpnd 1 (.reg .a) s)

/-- BIT 2,B (43_rotate_shift_bit.md R341). -/
def execBit2B (s : State) : Host.Outcome State Fault Refusal :=
  .next (bitOpnd 2 (.reg .b) s)

/-- BIT 2,C (43_rotate_shift_bit.md R341). -/
def execBit2C (s : State) : Host.Outcome State Fault Refusal :=
  .next (bitOpnd 2 (.reg .c) s)

/-- BIT 2,D (43_rotate_shift_bit.md R341). -/
def execBit2D (s : State) : Host.Outcome State Fault Refusal :=
  .next (bitOpnd 2 (.reg .d) s)

/-- BIT 2,E (43_rotate_shift_bit.md R341). -/
def execBit2E (s : State) : Host.Outcome State Fault Refusal :=
  .next (bitOpnd 2 (.reg .e) s)

/-- BIT 2,H (43_rotate_shift_bit.md R341). -/
def execBit2H (s : State) : Host.Outcome State Fault Refusal :=
  .next (bitOpnd 2 (.reg .h) s)

/-- BIT 2,L (43_rotate_shift_bit.md R341). -/
def execBit2L (s : State) : Host.Outcome State Fault Refusal :=
  .next (bitOpnd 2 (.reg .l) s)

/-- BIT 2,(HL) (43_rotate_shift_bit.md R342). -/
def execBit2IndHl (s : State) : Host.Outcome State Fault Refusal :=
  .next (bitOpnd 2 .indHl s)

/-- BIT 2,A (43_rotate_shift_bit.md R341). -/
def execBit2A (s : State) : Host.Outcome State Fault Refusal :=
  .next (bitOpnd 2 (.reg .a) s)

/-- BIT 3,B (43_rotate_shift_bit.md R341). -/
def execBit3B (s : State) : Host.Outcome State Fault Refusal :=
  .next (bitOpnd 3 (.reg .b) s)

/-- BIT 3,C (43_rotate_shift_bit.md R341). -/
def execBit3C (s : State) : Host.Outcome State Fault Refusal :=
  .next (bitOpnd 3 (.reg .c) s)

/-- BIT 3,D (43_rotate_shift_bit.md R341). -/
def execBit3D (s : State) : Host.Outcome State Fault Refusal :=
  .next (bitOpnd 3 (.reg .d) s)

/-- BIT 3,E (43_rotate_shift_bit.md R341). -/
def execBit3E (s : State) : Host.Outcome State Fault Refusal :=
  .next (bitOpnd 3 (.reg .e) s)

/-- BIT 3,H (43_rotate_shift_bit.md R341). -/
def execBit3H (s : State) : Host.Outcome State Fault Refusal :=
  .next (bitOpnd 3 (.reg .h) s)

/-- BIT 3,L (43_rotate_shift_bit.md R341). -/
def execBit3L (s : State) : Host.Outcome State Fault Refusal :=
  .next (bitOpnd 3 (.reg .l) s)

/-- BIT 3,(HL) (43_rotate_shift_bit.md R342). -/
def execBit3IndHl (s : State) : Host.Outcome State Fault Refusal :=
  .next (bitOpnd 3 .indHl s)

/-- BIT 3,A (43_rotate_shift_bit.md R341). -/
def execBit3A (s : State) : Host.Outcome State Fault Refusal :=
  .next (bitOpnd 3 (.reg .a) s)

/-- BIT 4,B (43_rotate_shift_bit.md R341). -/
def execBit4B (s : State) : Host.Outcome State Fault Refusal :=
  .next (bitOpnd 4 (.reg .b) s)

/-- BIT 4,C (43_rotate_shift_bit.md R341). -/
def execBit4C (s : State) : Host.Outcome State Fault Refusal :=
  .next (bitOpnd 4 (.reg .c) s)

/-- BIT 4,D (43_rotate_shift_bit.md R341). -/
def execBit4D (s : State) : Host.Outcome State Fault Refusal :=
  .next (bitOpnd 4 (.reg .d) s)

/-- BIT 4,E (43_rotate_shift_bit.md R341). -/
def execBit4E (s : State) : Host.Outcome State Fault Refusal :=
  .next (bitOpnd 4 (.reg .e) s)

/-- BIT 4,H (43_rotate_shift_bit.md R341). -/
def execBit4H (s : State) : Host.Outcome State Fault Refusal :=
  .next (bitOpnd 4 (.reg .h) s)

/-- BIT 4,L (43_rotate_shift_bit.md R341). -/
def execBit4L (s : State) : Host.Outcome State Fault Refusal :=
  .next (bitOpnd 4 (.reg .l) s)

/-- BIT 4,(HL) (43_rotate_shift_bit.md R342). -/
def execBit4IndHl (s : State) : Host.Outcome State Fault Refusal :=
  .next (bitOpnd 4 .indHl s)

/-- BIT 4,A (43_rotate_shift_bit.md R341). -/
def execBit4A (s : State) : Host.Outcome State Fault Refusal :=
  .next (bitOpnd 4 (.reg .a) s)

/-- BIT 5,B (43_rotate_shift_bit.md R341). -/
def execBit5B (s : State) : Host.Outcome State Fault Refusal :=
  .next (bitOpnd 5 (.reg .b) s)

/-- BIT 5,C (43_rotate_shift_bit.md R341). -/
def execBit5C (s : State) : Host.Outcome State Fault Refusal :=
  .next (bitOpnd 5 (.reg .c) s)

/-- BIT 5,D (43_rotate_shift_bit.md R341). -/
def execBit5D (s : State) : Host.Outcome State Fault Refusal :=
  .next (bitOpnd 5 (.reg .d) s)

/-- BIT 5,E (43_rotate_shift_bit.md R341). -/
def execBit5E (s : State) : Host.Outcome State Fault Refusal :=
  .next (bitOpnd 5 (.reg .e) s)

/-- BIT 5,H (43_rotate_shift_bit.md R341). -/
def execBit5H (s : State) : Host.Outcome State Fault Refusal :=
  .next (bitOpnd 5 (.reg .h) s)

/-- BIT 5,L (43_rotate_shift_bit.md R341). -/
def execBit5L (s : State) : Host.Outcome State Fault Refusal :=
  .next (bitOpnd 5 (.reg .l) s)

/-- BIT 5,(HL) (43_rotate_shift_bit.md R342). -/
def execBit5IndHl (s : State) : Host.Outcome State Fault Refusal :=
  .next (bitOpnd 5 .indHl s)

/-- BIT 5,A (43_rotate_shift_bit.md R341). -/
def execBit5A (s : State) : Host.Outcome State Fault Refusal :=
  .next (bitOpnd 5 (.reg .a) s)

/-- BIT 6,B (43_rotate_shift_bit.md R341). -/
def execBit6B (s : State) : Host.Outcome State Fault Refusal :=
  .next (bitOpnd 6 (.reg .b) s)

/-- BIT 6,C (43_rotate_shift_bit.md R341). -/
def execBit6C (s : State) : Host.Outcome State Fault Refusal :=
  .next (bitOpnd 6 (.reg .c) s)

/-- BIT 6,D (43_rotate_shift_bit.md R341). -/
def execBit6D (s : State) : Host.Outcome State Fault Refusal :=
  .next (bitOpnd 6 (.reg .d) s)

/-- BIT 6,E (43_rotate_shift_bit.md R341). -/
def execBit6E (s : State) : Host.Outcome State Fault Refusal :=
  .next (bitOpnd 6 (.reg .e) s)

/-- BIT 6,H (43_rotate_shift_bit.md R341). -/
def execBit6H (s : State) : Host.Outcome State Fault Refusal :=
  .next (bitOpnd 6 (.reg .h) s)

/-- BIT 6,L (43_rotate_shift_bit.md R341). -/
def execBit6L (s : State) : Host.Outcome State Fault Refusal :=
  .next (bitOpnd 6 (.reg .l) s)

/-- BIT 6,(HL) (43_rotate_shift_bit.md R342). -/
def execBit6IndHl (s : State) : Host.Outcome State Fault Refusal :=
  .next (bitOpnd 6 .indHl s)

/-- BIT 6,A (43_rotate_shift_bit.md R341). -/
def execBit6A (s : State) : Host.Outcome State Fault Refusal :=
  .next (bitOpnd 6 (.reg .a) s)

/-- BIT 7,B (43_rotate_shift_bit.md R341). -/
def execBit7B (s : State) : Host.Outcome State Fault Refusal :=
  .next (bitOpnd 7 (.reg .b) s)

/-- BIT 7,C (43_rotate_shift_bit.md R341). -/
def execBit7C (s : State) : Host.Outcome State Fault Refusal :=
  .next (bitOpnd 7 (.reg .c) s)

/-- BIT 7,D (43_rotate_shift_bit.md R341). -/
def execBit7D (s : State) : Host.Outcome State Fault Refusal :=
  .next (bitOpnd 7 (.reg .d) s)

/-- BIT 7,E (43_rotate_shift_bit.md R341). -/
def execBit7E (s : State) : Host.Outcome State Fault Refusal :=
  .next (bitOpnd 7 (.reg .e) s)

/-- BIT 7,H (43_rotate_shift_bit.md R341). -/
def execBit7H (s : State) : Host.Outcome State Fault Refusal :=
  .next (bitOpnd 7 (.reg .h) s)

/-- BIT 7,L (43_rotate_shift_bit.md R341). -/
def execBit7L (s : State) : Host.Outcome State Fault Refusal :=
  .next (bitOpnd 7 (.reg .l) s)

/-- BIT 7,(HL) (43_rotate_shift_bit.md R342). -/
def execBit7IndHl (s : State) : Host.Outcome State Fault Refusal :=
  .next (bitOpnd 7 .indHl s)

/-- BIT 7,A (43_rotate_shift_bit.md R341). -/
def execBit7A (s : State) : Host.Outcome State Fault Refusal :=
  .next (bitOpnd 7 (.reg .a) s)

/-- RES 0,B (43_rotate_shift_bit.md R343). -/
def execRes0B (s : State) : Host.Outcome State Fault Refusal :=
  .next (resOpnd 0 (.reg .b) s)

/-- RES 0,C (43_rotate_shift_bit.md R343). -/
def execRes0C (s : State) : Host.Outcome State Fault Refusal :=
  .next (resOpnd 0 (.reg .c) s)

/-- RES 0,D (43_rotate_shift_bit.md R343). -/
def execRes0D (s : State) : Host.Outcome State Fault Refusal :=
  .next (resOpnd 0 (.reg .d) s)

/-- RES 0,E (43_rotate_shift_bit.md R343). -/
def execRes0E (s : State) : Host.Outcome State Fault Refusal :=
  .next (resOpnd 0 (.reg .e) s)

/-- RES 0,H (43_rotate_shift_bit.md R343). -/
def execRes0H (s : State) : Host.Outcome State Fault Refusal :=
  .next (resOpnd 0 (.reg .h) s)

/-- RES 0,L (43_rotate_shift_bit.md R343). -/
def execRes0L (s : State) : Host.Outcome State Fault Refusal :=
  .next (resOpnd 0 (.reg .l) s)

/-- RES 0,(HL) (43_rotate_shift_bit.md R344). -/
def execRes0IndHl (s : State) : Host.Outcome State Fault Refusal :=
  .next (resOpnd 0 .indHl s)

/-- RES 0,A (43_rotate_shift_bit.md R343). -/
def execRes0A (s : State) : Host.Outcome State Fault Refusal :=
  .next (resOpnd 0 (.reg .a) s)

/-- RES 1,B (43_rotate_shift_bit.md R343). -/
def execRes1B (s : State) : Host.Outcome State Fault Refusal :=
  .next (resOpnd 1 (.reg .b) s)

/-- RES 1,C (43_rotate_shift_bit.md R343). -/
def execRes1C (s : State) : Host.Outcome State Fault Refusal :=
  .next (resOpnd 1 (.reg .c) s)

/-- RES 1,D (43_rotate_shift_bit.md R343). -/
def execRes1D (s : State) : Host.Outcome State Fault Refusal :=
  .next (resOpnd 1 (.reg .d) s)

/-- RES 1,E (43_rotate_shift_bit.md R343). -/
def execRes1E (s : State) : Host.Outcome State Fault Refusal :=
  .next (resOpnd 1 (.reg .e) s)

/-- RES 1,H (43_rotate_shift_bit.md R343). -/
def execRes1H (s : State) : Host.Outcome State Fault Refusal :=
  .next (resOpnd 1 (.reg .h) s)

/-- RES 1,L (43_rotate_shift_bit.md R343). -/
def execRes1L (s : State) : Host.Outcome State Fault Refusal :=
  .next (resOpnd 1 (.reg .l) s)

/-- RES 1,(HL) (43_rotate_shift_bit.md R344). -/
def execRes1IndHl (s : State) : Host.Outcome State Fault Refusal :=
  .next (resOpnd 1 .indHl s)

/-- RES 1,A (43_rotate_shift_bit.md R343). -/
def execRes1A (s : State) : Host.Outcome State Fault Refusal :=
  .next (resOpnd 1 (.reg .a) s)

/-- RES 2,B (43_rotate_shift_bit.md R343). -/
def execRes2B (s : State) : Host.Outcome State Fault Refusal :=
  .next (resOpnd 2 (.reg .b) s)

/-- RES 2,C (43_rotate_shift_bit.md R343). -/
def execRes2C (s : State) : Host.Outcome State Fault Refusal :=
  .next (resOpnd 2 (.reg .c) s)

/-- RES 2,D (43_rotate_shift_bit.md R343). -/
def execRes2D (s : State) : Host.Outcome State Fault Refusal :=
  .next (resOpnd 2 (.reg .d) s)

/-- RES 2,E (43_rotate_shift_bit.md R343). -/
def execRes2E (s : State) : Host.Outcome State Fault Refusal :=
  .next (resOpnd 2 (.reg .e) s)

/-- RES 2,H (43_rotate_shift_bit.md R343). -/
def execRes2H (s : State) : Host.Outcome State Fault Refusal :=
  .next (resOpnd 2 (.reg .h) s)

/-- RES 2,L (43_rotate_shift_bit.md R343). -/
def execRes2L (s : State) : Host.Outcome State Fault Refusal :=
  .next (resOpnd 2 (.reg .l) s)

/-- RES 2,(HL) (43_rotate_shift_bit.md R344). -/
def execRes2IndHl (s : State) : Host.Outcome State Fault Refusal :=
  .next (resOpnd 2 .indHl s)

/-- RES 2,A (43_rotate_shift_bit.md R343). -/
def execRes2A (s : State) : Host.Outcome State Fault Refusal :=
  .next (resOpnd 2 (.reg .a) s)

/-- RES 3,B (43_rotate_shift_bit.md R343). -/
def execRes3B (s : State) : Host.Outcome State Fault Refusal :=
  .next (resOpnd 3 (.reg .b) s)

/-- RES 3,C (43_rotate_shift_bit.md R343). -/
def execRes3C (s : State) : Host.Outcome State Fault Refusal :=
  .next (resOpnd 3 (.reg .c) s)

/-- RES 3,D (43_rotate_shift_bit.md R343). -/
def execRes3D (s : State) : Host.Outcome State Fault Refusal :=
  .next (resOpnd 3 (.reg .d) s)

/-- RES 3,E (43_rotate_shift_bit.md R343). -/
def execRes3E (s : State) : Host.Outcome State Fault Refusal :=
  .next (resOpnd 3 (.reg .e) s)

/-- RES 3,H (43_rotate_shift_bit.md R343). -/
def execRes3H (s : State) : Host.Outcome State Fault Refusal :=
  .next (resOpnd 3 (.reg .h) s)

/-- RES 3,L (43_rotate_shift_bit.md R343). -/
def execRes3L (s : State) : Host.Outcome State Fault Refusal :=
  .next (resOpnd 3 (.reg .l) s)

/-- RES 3,(HL) (43_rotate_shift_bit.md R344). -/
def execRes3IndHl (s : State) : Host.Outcome State Fault Refusal :=
  .next (resOpnd 3 .indHl s)

/-- RES 3,A (43_rotate_shift_bit.md R343). -/
def execRes3A (s : State) : Host.Outcome State Fault Refusal :=
  .next (resOpnd 3 (.reg .a) s)

/-- RES 4,B (43_rotate_shift_bit.md R343). -/
def execRes4B (s : State) : Host.Outcome State Fault Refusal :=
  .next (resOpnd 4 (.reg .b) s)

/-- RES 4,C (43_rotate_shift_bit.md R343). -/
def execRes4C (s : State) : Host.Outcome State Fault Refusal :=
  .next (resOpnd 4 (.reg .c) s)

/-- RES 4,D (43_rotate_shift_bit.md R343). -/
def execRes4D (s : State) : Host.Outcome State Fault Refusal :=
  .next (resOpnd 4 (.reg .d) s)

/-- RES 4,E (43_rotate_shift_bit.md R343). -/
def execRes4E (s : State) : Host.Outcome State Fault Refusal :=
  .next (resOpnd 4 (.reg .e) s)

/-- RES 4,H (43_rotate_shift_bit.md R343). -/
def execRes4H (s : State) : Host.Outcome State Fault Refusal :=
  .next (resOpnd 4 (.reg .h) s)

/-- RES 4,L (43_rotate_shift_bit.md R343). -/
def execRes4L (s : State) : Host.Outcome State Fault Refusal :=
  .next (resOpnd 4 (.reg .l) s)

/-- RES 4,(HL) (43_rotate_shift_bit.md R344). -/
def execRes4IndHl (s : State) : Host.Outcome State Fault Refusal :=
  .next (resOpnd 4 .indHl s)

/-- RES 4,A (43_rotate_shift_bit.md R343). -/
def execRes4A (s : State) : Host.Outcome State Fault Refusal :=
  .next (resOpnd 4 (.reg .a) s)

/-- RES 5,B (43_rotate_shift_bit.md R343). -/
def execRes5B (s : State) : Host.Outcome State Fault Refusal :=
  .next (resOpnd 5 (.reg .b) s)

/-- RES 5,C (43_rotate_shift_bit.md R343). -/
def execRes5C (s : State) : Host.Outcome State Fault Refusal :=
  .next (resOpnd 5 (.reg .c) s)

/-- RES 5,D (43_rotate_shift_bit.md R343). -/
def execRes5D (s : State) : Host.Outcome State Fault Refusal :=
  .next (resOpnd 5 (.reg .d) s)

/-- RES 5,E (43_rotate_shift_bit.md R343). -/
def execRes5E (s : State) : Host.Outcome State Fault Refusal :=
  .next (resOpnd 5 (.reg .e) s)

/-- RES 5,H (43_rotate_shift_bit.md R343). -/
def execRes5H (s : State) : Host.Outcome State Fault Refusal :=
  .next (resOpnd 5 (.reg .h) s)

/-- RES 5,L (43_rotate_shift_bit.md R343). -/
def execRes5L (s : State) : Host.Outcome State Fault Refusal :=
  .next (resOpnd 5 (.reg .l) s)

/-- RES 5,(HL) (43_rotate_shift_bit.md R344). -/
def execRes5IndHl (s : State) : Host.Outcome State Fault Refusal :=
  .next (resOpnd 5 .indHl s)

/-- RES 5,A (43_rotate_shift_bit.md R343). -/
def execRes5A (s : State) : Host.Outcome State Fault Refusal :=
  .next (resOpnd 5 (.reg .a) s)

/-- RES 6,B (43_rotate_shift_bit.md R343). -/
def execRes6B (s : State) : Host.Outcome State Fault Refusal :=
  .next (resOpnd 6 (.reg .b) s)

/-- RES 6,C (43_rotate_shift_bit.md R343). -/
def execRes6C (s : State) : Host.Outcome State Fault Refusal :=
  .next (resOpnd 6 (.reg .c) s)

/-- RES 6,D (43_rotate_shift_bit.md R343). -/
def execRes6D (s : State) : Host.Outcome State Fault Refusal :=
  .next (resOpnd 6 (.reg .d) s)

/-- RES 6,E (43_rotate_shift_bit.md R343). -/
def execRes6E (s : State) : Host.Outcome State Fault Refusal :=
  .next (resOpnd 6 (.reg .e) s)

/-- RES 6,H (43_rotate_shift_bit.md R343). -/
def execRes6H (s : State) : Host.Outcome State Fault Refusal :=
  .next (resOpnd 6 (.reg .h) s)

/-- RES 6,L (43_rotate_shift_bit.md R343). -/
def execRes6L (s : State) : Host.Outcome State Fault Refusal :=
  .next (resOpnd 6 (.reg .l) s)

/-- RES 6,(HL) (43_rotate_shift_bit.md R344). -/
def execRes6IndHl (s : State) : Host.Outcome State Fault Refusal :=
  .next (resOpnd 6 .indHl s)

/-- RES 6,A (43_rotate_shift_bit.md R343). -/
def execRes6A (s : State) : Host.Outcome State Fault Refusal :=
  .next (resOpnd 6 (.reg .a) s)

/-- RES 7,B (43_rotate_shift_bit.md R343). -/
def execRes7B (s : State) : Host.Outcome State Fault Refusal :=
  .next (resOpnd 7 (.reg .b) s)

/-- RES 7,C (43_rotate_shift_bit.md R343). -/
def execRes7C (s : State) : Host.Outcome State Fault Refusal :=
  .next (resOpnd 7 (.reg .c) s)

/-- RES 7,D (43_rotate_shift_bit.md R343). -/
def execRes7D (s : State) : Host.Outcome State Fault Refusal :=
  .next (resOpnd 7 (.reg .d) s)

/-- RES 7,E (43_rotate_shift_bit.md R343). -/
def execRes7E (s : State) : Host.Outcome State Fault Refusal :=
  .next (resOpnd 7 (.reg .e) s)

/-- RES 7,H (43_rotate_shift_bit.md R343). -/
def execRes7H (s : State) : Host.Outcome State Fault Refusal :=
  .next (resOpnd 7 (.reg .h) s)

/-- RES 7,L (43_rotate_shift_bit.md R343). -/
def execRes7L (s : State) : Host.Outcome State Fault Refusal :=
  .next (resOpnd 7 (.reg .l) s)

/-- RES 7,(HL) (43_rotate_shift_bit.md R344). -/
def execRes7IndHl (s : State) : Host.Outcome State Fault Refusal :=
  .next (resOpnd 7 .indHl s)

/-- RES 7,A (43_rotate_shift_bit.md R343). -/
def execRes7A (s : State) : Host.Outcome State Fault Refusal :=
  .next (resOpnd 7 (.reg .a) s)

/-- SET 0,B (43_rotate_shift_bit.md R345). -/
def execSet0B (s : State) : Host.Outcome State Fault Refusal :=
  .next (setOpnd 0 (.reg .b) s)

/-- SET 0,C (43_rotate_shift_bit.md R345). -/
def execSet0C (s : State) : Host.Outcome State Fault Refusal :=
  .next (setOpnd 0 (.reg .c) s)

/-- SET 0,D (43_rotate_shift_bit.md R345). -/
def execSet0D (s : State) : Host.Outcome State Fault Refusal :=
  .next (setOpnd 0 (.reg .d) s)

/-- SET 0,E (43_rotate_shift_bit.md R345). -/
def execSet0E (s : State) : Host.Outcome State Fault Refusal :=
  .next (setOpnd 0 (.reg .e) s)

/-- SET 0,H (43_rotate_shift_bit.md R345). -/
def execSet0H (s : State) : Host.Outcome State Fault Refusal :=
  .next (setOpnd 0 (.reg .h) s)

/-- SET 0,L (43_rotate_shift_bit.md R345). -/
def execSet0L (s : State) : Host.Outcome State Fault Refusal :=
  .next (setOpnd 0 (.reg .l) s)

/-- SET 0,(HL) (43_rotate_shift_bit.md R346). -/
def execSet0IndHl (s : State) : Host.Outcome State Fault Refusal :=
  .next (setOpnd 0 .indHl s)

/-- SET 0,A (43_rotate_shift_bit.md R345). -/
def execSet0A (s : State) : Host.Outcome State Fault Refusal :=
  .next (setOpnd 0 (.reg .a) s)

/-- SET 1,B (43_rotate_shift_bit.md R345). -/
def execSet1B (s : State) : Host.Outcome State Fault Refusal :=
  .next (setOpnd 1 (.reg .b) s)

/-- SET 1,C (43_rotate_shift_bit.md R345). -/
def execSet1C (s : State) : Host.Outcome State Fault Refusal :=
  .next (setOpnd 1 (.reg .c) s)

/-- SET 1,D (43_rotate_shift_bit.md R345). -/
def execSet1D (s : State) : Host.Outcome State Fault Refusal :=
  .next (setOpnd 1 (.reg .d) s)

/-- SET 1,E (43_rotate_shift_bit.md R345). -/
def execSet1E (s : State) : Host.Outcome State Fault Refusal :=
  .next (setOpnd 1 (.reg .e) s)

/-- SET 1,H (43_rotate_shift_bit.md R345). -/
def execSet1H (s : State) : Host.Outcome State Fault Refusal :=
  .next (setOpnd 1 (.reg .h) s)

/-- SET 1,L (43_rotate_shift_bit.md R345). -/
def execSet1L (s : State) : Host.Outcome State Fault Refusal :=
  .next (setOpnd 1 (.reg .l) s)

/-- SET 1,(HL) (43_rotate_shift_bit.md R346). -/
def execSet1IndHl (s : State) : Host.Outcome State Fault Refusal :=
  .next (setOpnd 1 .indHl s)

/-- SET 1,A (43_rotate_shift_bit.md R345). -/
def execSet1A (s : State) : Host.Outcome State Fault Refusal :=
  .next (setOpnd 1 (.reg .a) s)

/-- SET 2,B (43_rotate_shift_bit.md R345). -/
def execSet2B (s : State) : Host.Outcome State Fault Refusal :=
  .next (setOpnd 2 (.reg .b) s)

/-- SET 2,C (43_rotate_shift_bit.md R345). -/
def execSet2C (s : State) : Host.Outcome State Fault Refusal :=
  .next (setOpnd 2 (.reg .c) s)

/-- SET 2,D (43_rotate_shift_bit.md R345). -/
def execSet2D (s : State) : Host.Outcome State Fault Refusal :=
  .next (setOpnd 2 (.reg .d) s)

/-- SET 2,E (43_rotate_shift_bit.md R345). -/
def execSet2E (s : State) : Host.Outcome State Fault Refusal :=
  .next (setOpnd 2 (.reg .e) s)

/-- SET 2,H (43_rotate_shift_bit.md R345). -/
def execSet2H (s : State) : Host.Outcome State Fault Refusal :=
  .next (setOpnd 2 (.reg .h) s)

/-- SET 2,L (43_rotate_shift_bit.md R345). -/
def execSet2L (s : State) : Host.Outcome State Fault Refusal :=
  .next (setOpnd 2 (.reg .l) s)

/-- SET 2,(HL) (43_rotate_shift_bit.md R346). -/
def execSet2IndHl (s : State) : Host.Outcome State Fault Refusal :=
  .next (setOpnd 2 .indHl s)

/-- SET 2,A (43_rotate_shift_bit.md R345). -/
def execSet2A (s : State) : Host.Outcome State Fault Refusal :=
  .next (setOpnd 2 (.reg .a) s)

/-- SET 3,B (43_rotate_shift_bit.md R345). -/
def execSet3B (s : State) : Host.Outcome State Fault Refusal :=
  .next (setOpnd 3 (.reg .b) s)

/-- SET 3,C (43_rotate_shift_bit.md R345). -/
def execSet3C (s : State) : Host.Outcome State Fault Refusal :=
  .next (setOpnd 3 (.reg .c) s)

/-- SET 3,D (43_rotate_shift_bit.md R345). -/
def execSet3D (s : State) : Host.Outcome State Fault Refusal :=
  .next (setOpnd 3 (.reg .d) s)

/-- SET 3,E (43_rotate_shift_bit.md R345). -/
def execSet3E (s : State) : Host.Outcome State Fault Refusal :=
  .next (setOpnd 3 (.reg .e) s)

/-- SET 3,H (43_rotate_shift_bit.md R345). -/
def execSet3H (s : State) : Host.Outcome State Fault Refusal :=
  .next (setOpnd 3 (.reg .h) s)

/-- SET 3,L (43_rotate_shift_bit.md R345). -/
def execSet3L (s : State) : Host.Outcome State Fault Refusal :=
  .next (setOpnd 3 (.reg .l) s)

/-- SET 3,(HL) (43_rotate_shift_bit.md R346). -/
def execSet3IndHl (s : State) : Host.Outcome State Fault Refusal :=
  .next (setOpnd 3 .indHl s)

/-- SET 3,A (43_rotate_shift_bit.md R345). -/
def execSet3A (s : State) : Host.Outcome State Fault Refusal :=
  .next (setOpnd 3 (.reg .a) s)

/-- SET 4,B (43_rotate_shift_bit.md R345). -/
def execSet4B (s : State) : Host.Outcome State Fault Refusal :=
  .next (setOpnd 4 (.reg .b) s)

/-- SET 4,C (43_rotate_shift_bit.md R345). -/
def execSet4C (s : State) : Host.Outcome State Fault Refusal :=
  .next (setOpnd 4 (.reg .c) s)

/-- SET 4,D (43_rotate_shift_bit.md R345). -/
def execSet4D (s : State) : Host.Outcome State Fault Refusal :=
  .next (setOpnd 4 (.reg .d) s)

/-- SET 4,E (43_rotate_shift_bit.md R345). -/
def execSet4E (s : State) : Host.Outcome State Fault Refusal :=
  .next (setOpnd 4 (.reg .e) s)

/-- SET 4,H (43_rotate_shift_bit.md R345). -/
def execSet4H (s : State) : Host.Outcome State Fault Refusal :=
  .next (setOpnd 4 (.reg .h) s)

/-- SET 4,L (43_rotate_shift_bit.md R345). -/
def execSet4L (s : State) : Host.Outcome State Fault Refusal :=
  .next (setOpnd 4 (.reg .l) s)

/-- SET 4,(HL) (43_rotate_shift_bit.md R346). -/
def execSet4IndHl (s : State) : Host.Outcome State Fault Refusal :=
  .next (setOpnd 4 .indHl s)

/-- SET 4,A (43_rotate_shift_bit.md R345). -/
def execSet4A (s : State) : Host.Outcome State Fault Refusal :=
  .next (setOpnd 4 (.reg .a) s)

/-- SET 5,B (43_rotate_shift_bit.md R345). -/
def execSet5B (s : State) : Host.Outcome State Fault Refusal :=
  .next (setOpnd 5 (.reg .b) s)

/-- SET 5,C (43_rotate_shift_bit.md R345). -/
def execSet5C (s : State) : Host.Outcome State Fault Refusal :=
  .next (setOpnd 5 (.reg .c) s)

/-- SET 5,D (43_rotate_shift_bit.md R345). -/
def execSet5D (s : State) : Host.Outcome State Fault Refusal :=
  .next (setOpnd 5 (.reg .d) s)

/-- SET 5,E (43_rotate_shift_bit.md R345). -/
def execSet5E (s : State) : Host.Outcome State Fault Refusal :=
  .next (setOpnd 5 (.reg .e) s)

/-- SET 5,H (43_rotate_shift_bit.md R345). -/
def execSet5H (s : State) : Host.Outcome State Fault Refusal :=
  .next (setOpnd 5 (.reg .h) s)

/-- SET 5,L (43_rotate_shift_bit.md R345). -/
def execSet5L (s : State) : Host.Outcome State Fault Refusal :=
  .next (setOpnd 5 (.reg .l) s)

/-- SET 5,(HL) (43_rotate_shift_bit.md R346). -/
def execSet5IndHl (s : State) : Host.Outcome State Fault Refusal :=
  .next (setOpnd 5 .indHl s)

/-- SET 5,A (43_rotate_shift_bit.md R345). -/
def execSet5A (s : State) : Host.Outcome State Fault Refusal :=
  .next (setOpnd 5 (.reg .a) s)

/-- SET 6,B (43_rotate_shift_bit.md R345). -/
def execSet6B (s : State) : Host.Outcome State Fault Refusal :=
  .next (setOpnd 6 (.reg .b) s)

/-- SET 6,C (43_rotate_shift_bit.md R345). -/
def execSet6C (s : State) : Host.Outcome State Fault Refusal :=
  .next (setOpnd 6 (.reg .c) s)

/-- SET 6,D (43_rotate_shift_bit.md R345). -/
def execSet6D (s : State) : Host.Outcome State Fault Refusal :=
  .next (setOpnd 6 (.reg .d) s)

/-- SET 6,E (43_rotate_shift_bit.md R345). -/
def execSet6E (s : State) : Host.Outcome State Fault Refusal :=
  .next (setOpnd 6 (.reg .e) s)

/-- SET 6,H (43_rotate_shift_bit.md R345). -/
def execSet6H (s : State) : Host.Outcome State Fault Refusal :=
  .next (setOpnd 6 (.reg .h) s)

/-- SET 6,L (43_rotate_shift_bit.md R345). -/
def execSet6L (s : State) : Host.Outcome State Fault Refusal :=
  .next (setOpnd 6 (.reg .l) s)

/-- SET 6,(HL) (43_rotate_shift_bit.md R346). -/
def execSet6IndHl (s : State) : Host.Outcome State Fault Refusal :=
  .next (setOpnd 6 .indHl s)

/-- SET 6,A (43_rotate_shift_bit.md R345). -/
def execSet6A (s : State) : Host.Outcome State Fault Refusal :=
  .next (setOpnd 6 (.reg .a) s)

/-- SET 7,B (43_rotate_shift_bit.md R345). -/
def execSet7B (s : State) : Host.Outcome State Fault Refusal :=
  .next (setOpnd 7 (.reg .b) s)

/-- SET 7,C (43_rotate_shift_bit.md R345). -/
def execSet7C (s : State) : Host.Outcome State Fault Refusal :=
  .next (setOpnd 7 (.reg .c) s)

/-- SET 7,D (43_rotate_shift_bit.md R345). -/
def execSet7D (s : State) : Host.Outcome State Fault Refusal :=
  .next (setOpnd 7 (.reg .d) s)

/-- SET 7,E (43_rotate_shift_bit.md R345). -/
def execSet7E (s : State) : Host.Outcome State Fault Refusal :=
  .next (setOpnd 7 (.reg .e) s)

/-- SET 7,H (43_rotate_shift_bit.md R345). -/
def execSet7H (s : State) : Host.Outcome State Fault Refusal :=
  .next (setOpnd 7 (.reg .h) s)

/-- SET 7,L (43_rotate_shift_bit.md R345). -/
def execSet7L (s : State) : Host.Outcome State Fault Refusal :=
  .next (setOpnd 7 (.reg .l) s)

/-- SET 7,(HL) (43_rotate_shift_bit.md R346). -/
def execSet7IndHl (s : State) : Host.Outcome State Fault Refusal :=
  .next (setOpnd 7 .indHl s)

/-- SET 7,A (43_rotate_shift_bit.md R345). -/
def execSet7A (s : State) : Host.Outcome State Fault Refusal :=
  .next (setOpnd 7 (.reg .a) s)

end Sys2Proof.Machine
end

