-- ==== Sys2Proof/WellFormed.lean ====
section
/-! DEFINITION. Which terms of Instr are instructions: an `undefined` term must carry one of the eleven
undefined bytes of spec/30_encoding.md R181. Every other operand is typed at its encoding's width, so every
value of it is admitted (R178). -/

namespace Sys2Proof

/-- The eleven undefined opcode bytes (30_encoding.md R181, 90_conflicts.md C1). -/
def undefinedOpcodes : List Byte :=
  [0xD3, 0xDB, 0xDD, 0xE3, 0xE4, 0xEB, 0xEC, 0xED, 0xF4, 0xFC, 0xFD]

/-- The check: an `undefined` instruction's byte is one of the eleven. -/
def Instr.wellFormed : Instr → Bool
  | .undefined op => undefinedOpcodes.contains op
  | _ => true

end Sys2Proof
end

