-- ==== Sys2Proof/Decode.lean ====
section
/-! DEFINITION. Decoding by the opcode fields and operand tables of spec/30_encoding.md (R170 to R182), total
on any bytes, and after it the encoder, written row by row from the opcode maps (R179, R180). -/

namespace Sys2Proof

/-- The fields of an opcode byte: `x = o[7:6]`, `y = o[5:3]`, `z = o[2:0]`, `p = o[5:4]`, `q = o[3]`
(30_encoding.md R172). -/
def fieldX (o : Byte) : Nat := o.toNat / 64
def fieldY (o : Byte) : Nat := o.toNat / 8 % 8
def fieldZ (o : Byte) : Nat := o.toNat % 8
def fieldP (o : Byte) : Nat := o.toNat / 16 % 4
def fieldQ (o : Byte) : Nat := o.toNat / 8 % 2

/-- The 8-bit operand table (30_encoding.md R173). -/
def r8OfCode : Nat → Opnd8
  | 0 => .reg .b
  | 1 => .reg .c
  | 2 => .reg .d
  | 3 => .reg .e
  | 4 => .reg .h
  | 5 => .reg .l
  | 6 => .indHl
  | _ => .reg .a

/-- rp (30_encoding.md R174). -/
def rpOfCode : Nat → Rp
  | 0 => .bc
  | 1 => .de
  | 2 => .hl
  | _ => .sp

/-- rp2 (30_encoding.md R174). -/
def rp2OfCode : Nat → Rp2
  | 0 => .bc
  | 1 => .de
  | 2 => .hl
  | _ => .af

/-- rpm (30_encoding.md R174). -/
def rpmOfCode : Nat → Rpm
  | 0 => .bc
  | 1 => .de
  | 2 => .hli
  | _ => .hld

/-- cc (30_encoding.md R175). -/
def condOfCode : Nat → Cond
  | 0 => .nz
  | 1 => .z
  | 2 => .nc
  | _ => .c

/-- The ALU operation table (30_encoding.md R176). -/
def aluOfCode : Nat → AluOp
  | 0 => .add
  | 1 => .adc
  | 2 => .sub
  | 3 => .sbc
  | 4 => .and
  | 5 => .xor
  | 6 => .or
  | _ => .cp

/-- The CB shift table (30_encoding.md R177). -/
def shiftOfCode : Nat → ShiftOp
  | 0 => .rlc
  | 1 => .rrc
  | 2 => .rl
  | 3 => .rr
  | 4 => .sla
  | 5 => .sra
  | 6 => .swap
  | _ => .srl

/-- A bit index or restart number from a 3-bit field. -/
def indexOfCode (n : Nat) : Fin 8 := Fin.ofNat 8 n

/-- LD r,n8 or LD (HL),n8 (30_encoding.md R179, x = 0, z = 6). -/
def ldImmOf (o : Opnd8) (n : Byte) : Instr :=
  match o with
  | .reg r => .ldRegImm r n
  | .indHl => .ldIndHlN8 n

/-- The x = 1 block: LD r8[y],r8[z], but HALT where both are (HL) (30_encoding.md R179). -/
def ldBlockOf (o1 o2 : Opnd8) : Instr :=
  match o1, o2 with
  | .reg dst, .reg src => .ldRegReg dst src
  | .reg dst, .indHl => .ldRegInd dst
  | .indHl, .reg src => .ldIndReg src
  | .indHl, .indHl => .halt

/-- The x = 0 quarter of the primary map (30_encoding.md R179); `b1` and `b2` are the bytes after the
opcode. -/
def decodeX0 (o b1 b2 : Byte) : Instr :=
  match fieldZ o, fieldQ o with
  | 0, _ =>
    match fieldY o with
    | 0 => .nop
    | 1 => .ldIndN16Sp (word b2 b1)
    | 2 => .stop
    | 3 => .jrE8 b1
    | y => .jrCond (condOfCode (y - 4)) b1
  | 1, 0 => .ldPairImm (rpOfCode (fieldP o)) (word b2 b1)
  | 1, _ => .addHl (rpOfCode (fieldP o))
  | 2, 0 => .ldToA (rpmOfCode (fieldP o))
  | 2, _ => .ldAFrom (rpmOfCode (fieldP o))
  | 3, 0 => .incPair (rpOfCode (fieldP o))
  | 3, _ => .decPair (rpOfCode (fieldP o))
  | 4, _ => .inc8 (r8OfCode (fieldY o))
  | 5, _ => .dec8 (r8OfCode (fieldY o))
  | 6, _ => ldImmOf (r8OfCode (fieldY o)) b1
  | _, _ =>
    match fieldY o with
    | 0 => .rlca
    | 1 => .rrca
    | 2 => .rla
    | 3 => .rra
    | 4 => .daa
    | 5 => .cpl
    | 6 => .scf
    | _ => .ccf

/-- The x = 3 quarter of the primary map but for 0xCB (30_encoding.md R179, R181). -/
def decodeX3 (o b1 b2 : Byte) : Instr :=
  match fieldZ o, fieldY o with
  | 0, 4 => .ldhIndN8A b1
  | 0, 5 => .addSpE8 b1
  | 0, 6 => .ldhAIndN8 b1
  | 0, 7 => .ldHlSpE8 b1
  | 0, y => .retCond (condOfCode y)
  | 1, 1 => .ret
  | 1, 3 => .reti
  | 1, 5 => .jpHl
  | 1, 7 => .ldSpHl
  | 1, _ => .pop (rp2OfCode (fieldP o))
  | 2, 4 => .ldhIndCA
  | 2, 5 => .ldIndN16A (word b2 b1)
  | 2, 6 => .ldhAIndC
  | 2, 7 => .ldAIndN16 (word b2 b1)
  | 2, y => .jpCond (condOfCode y) (word b2 b1)
  | 3, 0 => .jpN16 (word b2 b1)
  | 3, 6 => .di
  | 3, 7 => .ei
  | 4, 0 => .callCond .nz (word b2 b1)
  | 4, 1 => .callCond .z (word b2 b1)
  | 4, 2 => .callCond .nc (word b2 b1)
  | 4, 3 => .callCond .c (word b2 b1)
  | 5, 0 => .push .bc
  | 5, 1 => .callN16 (word b2 b1)
  | 5, 2 => .push .de
  | 5, 4 => .push .hl
  | 5, 6 => .push .af
  | 6, y => .aluImm (aluOfCode y) b1
  | 7, y => .rst (indexOfCode y)
  | _, _ => .undefined o

/-- The CB table on its second byte (30_encoding.md R177, R180). -/
def decodeCb (s : Byte) : Instr :=
  match fieldX s with
  | 0 => .shift (shiftOfCode (fieldY s)) (r8OfCode (fieldZ s))
  | 1 => .bit (indexOfCode (fieldY s)) (r8OfCode (fieldZ s))
  | 2 => .res (indexOfCode (fieldY s)) (r8OfCode (fieldZ s))
  | _ => .set (indexOfCode (fieldY s)) (r8OfCode (fieldZ s))

/-- The instruction whose first byte is `o` and whose next bytes, where it has them, are `b1` and `b2`
(30_encoding.md R182). -/
def decodeOp (o b1 b2 : Byte) : Instr :=
  match fieldX o with
  | 0 => decodeX0 o b1 b2
  | 1 => ldBlockOf (r8OfCode (fieldY o)) (r8OfCode (fieldZ o))
  | 2 => .alu (aluOfCode (fieldY o)) (r8OfCode (fieldZ o))
  | _ => if o = 0xCB then decodeCb b1 else decodeX3 o b1 b2

/-- The op_n8 and op_e8 opcodes (30_encoding.md R171). -/
def twoByteOpcodes : List Byte :=
  [0x06, 0x0E, 0x16, 0x1E, 0x26, 0x2E, 0x36, 0x3E, 0x18, 0x20, 0x28, 0x30, 0x38, 0xC6, 0xCE, 0xD6, 0xDE,
   0xE6, 0xEE, 0xF6, 0xFE, 0xE0, 0xF0, 0xE8, 0xF8]

/-- The op_n16 opcodes (30_encoding.md R171). -/
def threeByteOpcodes : List Byte :=
  [0x01, 0x11, 0x21, 0x31, 0x08, 0xC2, 0xC3, 0xCA, 0xD2, 0xDA, 0xC4, 0xCC, 0xD4, 0xDC, 0xCD, 0xEA, 0xFA]

/-- How many operand bytes follow the opcode byte: the CB second byte is an opcode, not an operand. -/
def operandBytes (o : Byte) : Nat :=
  if twoByteOpcodes.contains o then 1 else if threeByteOpcodes.contains o then 2 else 0

/-- The length of an instruction, by its first byte alone (30_encoding.md R171). -/
def instrLen (o : Byte) : Nat := if o = 0xCB then 2 else 1 + operandBytes o

/-- Why a list of bytes holds no instruction: it is empty, or ends inside one. There is no other reason:
every byte has a meaning (30_encoding.md R181). -/
inductive Reject where
  | empty
  | truncated (opcode : Byte)
  deriving DecidableEq, Repr

/-- The first instruction of a list of bytes, with the bytes after it. A list that holds the byte 0xCB and
nothing else is the table's row PREFIX_CB (log entry 11). -/
def decode : List Byte → Except Reject (Instr × List Byte)
  | [] => .error .empty
  | [o] => if o = 0xCB then .ok (.prefixCb, []) else if instrLen o = 1 then .ok (decodeOp o 0 0, []) else .error (.truncated o)
  | [o, b1] =>
    match instrLen o with
    | 1 => .ok (decodeOp o 0 0, [b1])
    | 2 => .ok (decodeOp o b1 0, [])
    | _ => .error (.truncated o)
  | o :: b1 :: b2 :: rest =>
    match instrLen o with
    | 1 => .ok (decodeOp o 0 0, b1 :: b2 :: rest)
    | 2 => .ok (decodeOp o b1 0, b2 :: rest)
    | _ => .ok (decodeOp o b1 b2, rest)

/-- The bytes, first byte first, of an opcode_table.json row's word: a 16-bit row is a CB row, whose
number has 0xCB in its high byte; otherwise bits 7..0 are the first byte. The operand bytes the table
gives no bits are zero (log entry 13). -/
def tableBytes (nbits w : Nat) : List Byte :=
  let lo := BitVec.ofNat 8 w
  let mid := BitVec.ofNat 8 (w / 256)
  let top := BitVec.ofNat 8 (w / 65536)
  if nbits ≤ 8 then lo :: List.replicate (operandBytes lo) 0
  else if nbits ≤ 16 then
    if mid = 0xCB ∨ lo = 0xCB then [0xCB, if mid = 0xCB then lo else mid]
    else lo :: mid :: List.replicate (operandBytes lo - 1) 0
  else [lo, mid, top]

/-- The instruction the decoder reads from a table word. -/
def decodeTableWord (nbits w : Nat) : Option Instr :=
  match decode (tableBytes nbits w) with
  | .ok (i, _) => some i
  | .error _ => none

/-- The bytes of an instruction, in fetch order, row by row from the opcode maps (30_encoding.md R179,
R180); immediates as R178 lays them out. -/
def encode : Instr → List Byte
  | .ldBcN16 n => [0x01, loByte n, hiByte n]
  | .ldBN8 n => [0x06, n]
  | .ldIndN16Sp n => [0x08, loByte n, hiByte n]
  | .ldCN8 n => [0x0E, n]
  | .ldDeN16 n => [0x11, loByte n, hiByte n]
  | .ldDN8 n => [0x16, n]
  | .jrE8 e => [0x18, e]
  | .ldEN8 n => [0x1E, n]
  | .jrNzE8 e => [0x20, e]
  | .ldHlN16 n => [0x21, loByte n, hiByte n]
  | .ldHN8 n => [0x26, n]
  | .jrZE8 e => [0x28, e]
  | .ldLN8 n => [0x2E, n]
  | .jrNcE8 e => [0x30, e]
  | .ldSpN16 n => [0x31, loByte n, hiByte n]
  | .ldIndHlN8 n => [0x36, n]
  | .jrCE8 e => [0x38, e]
  | .ldAN8 n => [0x3E, n]
  | .jpNzN16 n => [0xC2, loByte n, hiByte n]
  | .jpN16 n => [0xC3, loByte n, hiByte n]
  | .callNzN16 n => [0xC4, loByte n, hiByte n]
  | .addAN8 n => [0xC6, n]
  | .jpZN16 n => [0xCA, loByte n, hiByte n]
  | .callZN16 n => [0xCC, loByte n, hiByte n]
  | .callN16 n => [0xCD, loByte n, hiByte n]
  | .adcAN8 n => [0xCE, n]
  | .jpNcN16 n => [0xD2, loByte n, hiByte n]
  | .undefined op => [op]
  | .callNcN16 n => [0xD4, loByte n, hiByte n]
  | .subN8 n => [0xD6, n]
  | .jpCN16 n => [0xDA, loByte n, hiByte n]
  | .callCN16 n => [0xDC, loByte n, hiByte n]
  | .sbcAN8 n => [0xDE, n]
  | .ldhIndN8A n => [0xE0, n]
  | .andN8 n => [0xE6, n]
  | .addSpE8 e => [0xE8, e]
  | .ldIndN16A n => [0xEA, loByte n, hiByte n]
  | .xorN8 n => [0xEE, n]
  | .ldhAIndN8 n => [0xF0, n]
  | .orN8 n => [0xF6, n]
  | .ldHlSpE8 e => [0xF8, e]
  | .ldAIndN16 n => [0xFA, loByte n, hiByte n]
  | .cpN8 n => [0xFE, n]
  | .nop => [0x00]
  | .ldIndBcA => [0x02]
  | .incBc => [0x03]
  | .incB => [0x04]
  | .decB => [0x05]
  | .rlca => [0x07]
  | .addHlBc => [0x09]
  | .ldAIndBc => [0x0A]
  | .decBc => [0x0B]
  | .incC => [0x0C]
  | .decC => [0x0D]
  | .rrca => [0x0F]
  | .stop => [0x10]
  | .ldIndDeA => [0x12]
  | .incDe => [0x13]
  | .incD => [0x14]
  | .decD => [0x15]
  | .rla => [0x17]
  | .addHlDe => [0x19]
  | .ldAIndDe => [0x1A]
  | .decDe => [0x1B]
  | .incE => [0x1C]
  | .decE => [0x1D]
  | .rra => [0x1F]
  | .ldIndHliA => [0x22]
  | .incHl => [0x23]
  | .incH => [0x24]
  | .decH => [0x25]
  | .daa => [0x27]
  | .addHlHl => [0x29]
  | .ldAIndHli => [0x2A]
  | .decHl => [0x2B]
  | .incL => [0x2C]
  | .decL => [0x2D]
  | .cpl => [0x2F]
  | .ldIndHldA => [0x32]
  | .incSp => [0x33]
  | .incIndHl => [0x34]
  | .decIndHl => [0x35]
  | .scf => [0x37]
  | .addHlSp => [0x39]
  | .ldAIndHld => [0x3A]
  | .decSp => [0x3B]
  | .incA => [0x3C]
  | .decA => [0x3D]
  | .ccf => [0x3F]
  | .ldBB => [0x40]
  | .ldBC => [0x41]
  | .ldBD => [0x42]
  | .ldBE => [0x43]
  | .ldBH => [0x44]
  | .ldBL => [0x45]
  | .ldBIndHl => [0x46]
  | .ldBA => [0x47]
  | .ldCB => [0x48]
  | .ldCC => [0x49]
  | .ldCD => [0x4A]
  | .ldCE => [0x4B]
  | .ldCH => [0x4C]
  | .ldCL => [0x4D]
  | .ldCIndHl => [0x4E]
  | .ldCA => [0x4F]
  | .ldDB => [0x50]
  | .ldDC => [0x51]
  | .ldDD => [0x52]
  | .ldDE => [0x53]
  | .ldDH => [0x54]
  | .ldDL => [0x55]
  | .ldDIndHl => [0x56]
  | .ldDA => [0x57]
  | .ldEB => [0x58]
  | .ldEC => [0x59]
  | .ldED => [0x5A]
  | .ldEE => [0x5B]
  | .ldEH => [0x5C]
  | .ldEL => [0x5D]
  | .ldEIndHl => [0x5E]
  | .ldEA => [0x5F]
  | .ldHB => [0x60]
  | .ldHC => [0x61]
  | .ldHD => [0x62]
  | .ldHE => [0x63]
  | .ldHH => [0x64]
  | .ldHL => [0x65]
  | .ldHIndHl => [0x66]
  | .ldHA => [0x67]
  | .ldLB => [0x68]
  | .ldLC => [0x69]
  | .ldLD => [0x6A]
  | .ldLE => [0x6B]
  | .ldLH => [0x6C]
  | .ldLL => [0x6D]
  | .ldLIndHl => [0x6E]
  | .ldLA => [0x6F]
  | .ldIndHlB => [0x70]
  | .ldIndHlC => [0x71]
  | .ldIndHlD => [0x72]
  | .ldIndHlE => [0x73]
  | .ldIndHlH => [0x74]
  | .ldIndHlL => [0x75]
  | .halt => [0x76]
  | .ldIndHlA => [0x77]
  | .ldAB => [0x78]
  | .ldAC => [0x79]
  | .ldAD => [0x7A]
  | .ldAE => [0x7B]
  | .ldAH => [0x7C]
  | .ldAL => [0x7D]
  | .ldAIndHl => [0x7E]
  | .ldAA => [0x7F]
  | .addAB => [0x80]
  | .addAC => [0x81]
  | .addAD => [0x82]
  | .addAE => [0x83]
  | .addAH => [0x84]
  | .addAL => [0x85]
  | .addAIndHl => [0x86]
  | .addAA => [0x87]
  | .adcAB => [0x88]
  | .adcAC => [0x89]
  | .adcAD => [0x8A]
  | .adcAE => [0x8B]
  | .adcAH => [0x8C]
  | .adcAL => [0x8D]
  | .adcAIndHl => [0x8E]
  | .adcAA => [0x8F]
  | .subB => [0x90]
  | .subC => [0x91]
  | .subD => [0x92]
  | .subE => [0x93]
  | .subH => [0x94]
  | .subL => [0x95]
  | .subIndHl => [0x96]
  | .subA => [0x97]
  | .sbcAB => [0x98]
  | .sbcAC => [0x99]
  | .sbcAD => [0x9A]
  | .sbcAE => [0x9B]
  | .sbcAH => [0x9C]
  | .sbcAL => [0x9D]
  | .sbcAIndHl => [0x9E]
  | .sbcAA => [0x9F]
  | .andB => [0xA0]
  | .andC => [0xA1]
  | .andD => [0xA2]
  | .andE => [0xA3]
  | .andH => [0xA4]
  | .andL => [0xA5]
  | .andIndHl => [0xA6]
  | .andA => [0xA7]
  | .xorB => [0xA8]
  | .xorC => [0xA9]
  | .xorD => [0xAA]
  | .xorE => [0xAB]
  | .xorH => [0xAC]
  | .xorL => [0xAD]
  | .xorIndHl => [0xAE]
  | .xorA => [0xAF]
  | .orB => [0xB0]
  | .orC => [0xB1]
  | .orD => [0xB2]
  | .orE => [0xB3]
  | .orH => [0xB4]
  | .orL => [0xB5]
  | .orIndHl => [0xB6]
  | .orA => [0xB7]
  | .cpB => [0xB8]
  | .cpC => [0xB9]
  | .cpD => [0xBA]
  | .cpE => [0xBB]
  | .cpH => [0xBC]
  | .cpL => [0xBD]
  | .cpIndHl => [0xBE]
  | .cpA => [0xBF]
  | .retNz => [0xC0]
  | .popBc => [0xC1]
  | .pushBc => [0xC5]
  | .rst00 => [0xC7]
  | .retZ => [0xC8]
  | .ret => [0xC9]
  | .prefixCb => [0xCB]
  | .rst08 => [0xCF]
  | .retNc => [0xD0]
  | .popDe => [0xD1]
  | .pushDe => [0xD5]
  | .rst10 => [0xD7]
  | .retC => [0xD8]
  | .reti => [0xD9]
  | .rst18 => [0xDF]
  | .popHl => [0xE1]
  | .ldhIndCA => [0xE2]
  | .pushHl => [0xE5]
  | .rst20 => [0xE7]
  | .jpHl => [0xE9]
  | .rst28 => [0xEF]
  | .popAf => [0xF1]
  | .ldhAIndC => [0xF2]
  | .di => [0xF3]
  | .pushAf => [0xF5]
  | .rst30 => [0xF7]
  | .ldSpHl => [0xF9]
  | .ei => [0xFB]
  | .rst38 => [0xFF]
  | .rlcB => [0xCB, 0x00]
  | .rlcC => [0xCB, 0x01]
  | .rlcD => [0xCB, 0x02]
  | .rlcE => [0xCB, 0x03]
  | .rlcH => [0xCB, 0x04]
  | .rlcL => [0xCB, 0x05]
  | .rlcIndHl => [0xCB, 0x06]
  | .rlcA => [0xCB, 0x07]
  | .rrcB => [0xCB, 0x08]
  | .rrcC => [0xCB, 0x09]
  | .rrcD => [0xCB, 0x0A]
  | .rrcE => [0xCB, 0x0B]
  | .rrcH => [0xCB, 0x0C]
  | .rrcL => [0xCB, 0x0D]
  | .rrcIndHl => [0xCB, 0x0E]
  | .rrcA => [0xCB, 0x0F]
  | .rlB => [0xCB, 0x10]
  | .rlC => [0xCB, 0x11]
  | .rlD => [0xCB, 0x12]
  | .rlE => [0xCB, 0x13]
  | .rlH => [0xCB, 0x14]
  | .rlL => [0xCB, 0x15]
  | .rlIndHl => [0xCB, 0x16]
  | .rlA => [0xCB, 0x17]
  | .rrB => [0xCB, 0x18]
  | .rrC => [0xCB, 0x19]
  | .rrD => [0xCB, 0x1A]
  | .rrE => [0xCB, 0x1B]
  | .rrH => [0xCB, 0x1C]
  | .rrL => [0xCB, 0x1D]
  | .rrIndHl => [0xCB, 0x1E]
  | .rrA => [0xCB, 0x1F]
  | .slaB => [0xCB, 0x20]
  | .slaC => [0xCB, 0x21]
  | .slaD => [0xCB, 0x22]
  | .slaE => [0xCB, 0x23]
  | .slaH => [0xCB, 0x24]
  | .slaL => [0xCB, 0x25]
  | .slaIndHl => [0xCB, 0x26]
  | .slaA => [0xCB, 0x27]
  | .sraB => [0xCB, 0x28]
  | .sraC => [0xCB, 0x29]
  | .sraD => [0xCB, 0x2A]
  | .sraE => [0xCB, 0x2B]
  | .sraH => [0xCB, 0x2C]
  | .sraL => [0xCB, 0x2D]
  | .sraIndHl => [0xCB, 0x2E]
  | .sraA => [0xCB, 0x2F]
  | .swapB => [0xCB, 0x30]
  | .swapC => [0xCB, 0x31]
  | .swapD => [0xCB, 0x32]
  | .swapE => [0xCB, 0x33]
  | .swapH => [0xCB, 0x34]
  | .swapL => [0xCB, 0x35]
  | .swapIndHl => [0xCB, 0x36]
  | .swapA => [0xCB, 0x37]
  | .srlB => [0xCB, 0x38]
  | .srlC => [0xCB, 0x39]
  | .srlD => [0xCB, 0x3A]
  | .srlE => [0xCB, 0x3B]
  | .srlH => [0xCB, 0x3C]
  | .srlL => [0xCB, 0x3D]
  | .srlIndHl => [0xCB, 0x3E]
  | .srlA => [0xCB, 0x3F]
  | .bit0B => [0xCB, 0x40]
  | .bit0C => [0xCB, 0x41]
  | .bit0D => [0xCB, 0x42]
  | .bit0E => [0xCB, 0x43]
  | .bit0H => [0xCB, 0x44]
  | .bit0L => [0xCB, 0x45]
  | .bit0IndHl => [0xCB, 0x46]
  | .bit0A => [0xCB, 0x47]
  | .bit1B => [0xCB, 0x48]
  | .bit1C => [0xCB, 0x49]
  | .bit1D => [0xCB, 0x4A]
  | .bit1E => [0xCB, 0x4B]
  | .bit1H => [0xCB, 0x4C]
  | .bit1L => [0xCB, 0x4D]
  | .bit1IndHl => [0xCB, 0x4E]
  | .bit1A => [0xCB, 0x4F]
  | .bit2B => [0xCB, 0x50]
  | .bit2C => [0xCB, 0x51]
  | .bit2D => [0xCB, 0x52]
  | .bit2E => [0xCB, 0x53]
  | .bit2H => [0xCB, 0x54]
  | .bit2L => [0xCB, 0x55]
  | .bit2IndHl => [0xCB, 0x56]
  | .bit2A => [0xCB, 0x57]
  | .bit3B => [0xCB, 0x58]
  | .bit3C => [0xCB, 0x59]
  | .bit3D => [0xCB, 0x5A]
  | .bit3E => [0xCB, 0x5B]
  | .bit3H => [0xCB, 0x5C]
  | .bit3L => [0xCB, 0x5D]
  | .bit3IndHl => [0xCB, 0x5E]
  | .bit3A => [0xCB, 0x5F]
  | .bit4B => [0xCB, 0x60]
  | .bit4C => [0xCB, 0x61]
  | .bit4D => [0xCB, 0x62]
  | .bit4E => [0xCB, 0x63]
  | .bit4H => [0xCB, 0x64]
  | .bit4L => [0xCB, 0x65]
  | .bit4IndHl => [0xCB, 0x66]
  | .bit4A => [0xCB, 0x67]
  | .bit5B => [0xCB, 0x68]
  | .bit5C => [0xCB, 0x69]
  | .bit5D => [0xCB, 0x6A]
  | .bit5E => [0xCB, 0x6B]
  | .bit5H => [0xCB, 0x6C]
  | .bit5L => [0xCB, 0x6D]
  | .bit5IndHl => [0xCB, 0x6E]
  | .bit5A => [0xCB, 0x6F]
  | .bit6B => [0xCB, 0x70]
  | .bit6C => [0xCB, 0x71]
  | .bit6D => [0xCB, 0x72]
  | .bit6E => [0xCB, 0x73]
  | .bit6H => [0xCB, 0x74]
  | .bit6L => [0xCB, 0x75]
  | .bit6IndHl => [0xCB, 0x76]
  | .bit6A => [0xCB, 0x77]
  | .bit7B => [0xCB, 0x78]
  | .bit7C => [0xCB, 0x79]
  | .bit7D => [0xCB, 0x7A]
  | .bit7E => [0xCB, 0x7B]
  | .bit7H => [0xCB, 0x7C]
  | .bit7L => [0xCB, 0x7D]
  | .bit7IndHl => [0xCB, 0x7E]
  | .bit7A => [0xCB, 0x7F]
  | .res0B => [0xCB, 0x80]
  | .res0C => [0xCB, 0x81]
  | .res0D => [0xCB, 0x82]
  | .res0E => [0xCB, 0x83]
  | .res0H => [0xCB, 0x84]
  | .res0L => [0xCB, 0x85]
  | .res0IndHl => [0xCB, 0x86]
  | .res0A => [0xCB, 0x87]
  | .res1B => [0xCB, 0x88]
  | .res1C => [0xCB, 0x89]
  | .res1D => [0xCB, 0x8A]
  | .res1E => [0xCB, 0x8B]
  | .res1H => [0xCB, 0x8C]
  | .res1L => [0xCB, 0x8D]
  | .res1IndHl => [0xCB, 0x8E]
  | .res1A => [0xCB, 0x8F]
  | .res2B => [0xCB, 0x90]
  | .res2C => [0xCB, 0x91]
  | .res2D => [0xCB, 0x92]
  | .res2E => [0xCB, 0x93]
  | .res2H => [0xCB, 0x94]
  | .res2L => [0xCB, 0x95]
  | .res2IndHl => [0xCB, 0x96]
  | .res2A => [0xCB, 0x97]
  | .res3B => [0xCB, 0x98]
  | .res3C => [0xCB, 0x99]
  | .res3D => [0xCB, 0x9A]
  | .res3E => [0xCB, 0x9B]
  | .res3H => [0xCB, 0x9C]
  | .res3L => [0xCB, 0x9D]
  | .res3IndHl => [0xCB, 0x9E]
  | .res3A => [0xCB, 0x9F]
  | .res4B => [0xCB, 0xA0]
  | .res4C => [0xCB, 0xA1]
  | .res4D => [0xCB, 0xA2]
  | .res4E => [0xCB, 0xA3]
  | .res4H => [0xCB, 0xA4]
  | .res4L => [0xCB, 0xA5]
  | .res4IndHl => [0xCB, 0xA6]
  | .res4A => [0xCB, 0xA7]
  | .res5B => [0xCB, 0xA8]
  | .res5C => [0xCB, 0xA9]
  | .res5D => [0xCB, 0xAA]
  | .res5E => [0xCB, 0xAB]
  | .res5H => [0xCB, 0xAC]
  | .res5L => [0xCB, 0xAD]
  | .res5IndHl => [0xCB, 0xAE]
  | .res5A => [0xCB, 0xAF]
  | .res6B => [0xCB, 0xB0]
  | .res6C => [0xCB, 0xB1]
  | .res6D => [0xCB, 0xB2]
  | .res6E => [0xCB, 0xB3]
  | .res6H => [0xCB, 0xB4]
  | .res6L => [0xCB, 0xB5]
  | .res6IndHl => [0xCB, 0xB6]
  | .res6A => [0xCB, 0xB7]
  | .res7B => [0xCB, 0xB8]
  | .res7C => [0xCB, 0xB9]
  | .res7D => [0xCB, 0xBA]
  | .res7E => [0xCB, 0xBB]
  | .res7H => [0xCB, 0xBC]
  | .res7L => [0xCB, 0xBD]
  | .res7IndHl => [0xCB, 0xBE]
  | .res7A => [0xCB, 0xBF]
  | .set0B => [0xCB, 0xC0]
  | .set0C => [0xCB, 0xC1]
  | .set0D => [0xCB, 0xC2]
  | .set0E => [0xCB, 0xC3]
  | .set0H => [0xCB, 0xC4]
  | .set0L => [0xCB, 0xC5]
  | .set0IndHl => [0xCB, 0xC6]
  | .set0A => [0xCB, 0xC7]
  | .set1B => [0xCB, 0xC8]
  | .set1C => [0xCB, 0xC9]
  | .set1D => [0xCB, 0xCA]
  | .set1E => [0xCB, 0xCB]
  | .set1H => [0xCB, 0xCC]
  | .set1L => [0xCB, 0xCD]
  | .set1IndHl => [0xCB, 0xCE]
  | .set1A => [0xCB, 0xCF]
  | .set2B => [0xCB, 0xD0]
  | .set2C => [0xCB, 0xD1]
  | .set2D => [0xCB, 0xD2]
  | .set2E => [0xCB, 0xD3]
  | .set2H => [0xCB, 0xD4]
  | .set2L => [0xCB, 0xD5]
  | .set2IndHl => [0xCB, 0xD6]
  | .set2A => [0xCB, 0xD7]
  | .set3B => [0xCB, 0xD8]
  | .set3C => [0xCB, 0xD9]
  | .set3D => [0xCB, 0xDA]
  | .set3E => [0xCB, 0xDB]
  | .set3H => [0xCB, 0xDC]
  | .set3L => [0xCB, 0xDD]
  | .set3IndHl => [0xCB, 0xDE]
  | .set3A => [0xCB, 0xDF]
  | .set4B => [0xCB, 0xE0]
  | .set4C => [0xCB, 0xE1]
  | .set4D => [0xCB, 0xE2]
  | .set4E => [0xCB, 0xE3]
  | .set4H => [0xCB, 0xE4]
  | .set4L => [0xCB, 0xE5]
  | .set4IndHl => [0xCB, 0xE6]
  | .set4A => [0xCB, 0xE7]
  | .set5B => [0xCB, 0xE8]
  | .set5C => [0xCB, 0xE9]
  | .set5D => [0xCB, 0xEA]
  | .set5E => [0xCB, 0xEB]
  | .set5H => [0xCB, 0xEC]
  | .set5L => [0xCB, 0xED]
  | .set5IndHl => [0xCB, 0xEE]
  | .set5A => [0xCB, 0xEF]
  | .set6B => [0xCB, 0xF0]
  | .set6C => [0xCB, 0xF1]
  | .set6D => [0xCB, 0xF2]
  | .set6E => [0xCB, 0xF3]
  | .set6H => [0xCB, 0xF4]
  | .set6L => [0xCB, 0xF5]
  | .set6IndHl => [0xCB, 0xF6]
  | .set6A => [0xCB, 0xF7]
  | .set7B => [0xCB, 0xF8]
  | .set7C => [0xCB, 0xF9]
  | .set7D => [0xCB, 0xFA]
  | .set7E => [0xCB, 0xFB]
  | .set7H => [0xCB, 0xFC]
  | .set7L => [0xCB, 0xFD]
  | .set7IndHl => [0xCB, 0xFE]
  | .set7A => [0xCB, 0xFF]

end Sys2Proof
end

