-- ==== Sys2Proof/Machine/System.lean ====
section
/-! DEFINITION. The meanings of the system and control instructions (spec/45_system.md). -/

namespace Sys2Proof.Machine

/-- NOP: nothing after the fetch (45_system.md R390). -/
def nop (s : State) : State := s

/-- STOP: no operation in this core (45_system.md R391). -/
def stop (s : State) : State := s

/-- An undefined opcode: `raise Lock()` (45_system.md R396, 60_exceptions.md R425). -/
def lockUp (s : State) : State := mapCpu Cpu.lock s

/-- ExecuteCB(s), by the fields of the second byte (45_system.md R395, 30_encoding.md R177). -/
def executeCb (b : Byte) (s : State) : State :=
  match fieldX b with
  | 0 => shiftOpnd (shiftOfCode (fieldY b)) (r8OfCode (fieldZ b)) s
  | 1 => bitOpnd (indexOfCode (fieldY b)) (r8OfCode (fieldZ b)) s
  | 2 => resOpnd (indexOfCode (fieldY b)) (r8OfCode (fieldZ b)) s
  | _ => setOpnd (indexOfCode (fieldY b)) (r8OfCode (fieldZ b)) s

/-- The CB prefix: `s <- Fetch8(); ExecuteCB(s)` (45_system.md R395). -/
def prefix_ (s : State) : State :=
  let r := fetch8 s
  executeCb r.1 r.2

/-- NOP (45_system.md R390). -/
def execNop (s : State) : Host.Outcome State Fault Refusal :=
  .next (nop s)

/-- STOP (45_system.md R391). -/
def execStop (s : State) : Host.Outcome State Fault Refusal :=
  .next (stop s)

/-- HALT (45_system.md R392). -/
def execHalt (s : State) : Host.Outcome State Fault Refusal :=
  .next (mapCpu Cpu.halt s)

/-- PREFIX CB (45_system.md R395). -/
def execPrefixCb (s : State) : Host.Outcome State Fault Refusal :=
  .next (prefix_ s)

/-- The eleven undefined opcode bytes (45_system.md R396). -/
def execUndefined (_op : Byte) (s : State) : Host.Outcome State Fault Refusal :=
  .next (lockUp s)

/-- DI (45_system.md R393). -/
def execDi (s : State) : Host.Outcome State Fault Refusal :=
  .next (mapCpu Cpu.di s)

/-- EI (45_system.md R394). -/
def execEi (s : State) : Host.Outcome State Fault Refusal :=
  .next (mapCpu Cpu.ei s)

end Sys2Proof.Machine
end

