-- ==== Sys2Proof/Machine/Fetch.lean ====
section
/-! DEFINITION. What a step does before an instruction executes (spec/60_exceptions.md R410 to R423), fetching
an instruction, and placing one where the next step fetches. -/

namespace Sys2Proof.Machine

/-- Fetch an instruction: the opcode byte, then the bytes its length asks for (30_encoding.md R171, R182). -/
def fetchInstr (s : State) : Instr × State :=
  let o := fetch8 s
  match instrLen o.1 with
  | 1 => (decodeOp o.1 0 0, o.2)
  | 2 =>
    let b1 := fetch8 o.2
    (decodeOp o.1 b1.1 0, b1.2)
  | _ =>
    let b1 := fetch8 o.2
    let b2 := fetch8 b1.2
    (decodeOp o.1 b1.1 b2.1, b2.2)

/-- What a step does: it ends without an instruction, or an instruction has been fetched and executes. -/
inductive Turn where
  | done (s : State)
  | run (i : Instr) (s : State)
  deriving DecidableEq, Repr

/-- `instruction()` up to Execute (60_exceptions.md R410): locked, halted without a request, an interrupt taken,
or IME promoted and an instruction fetched. -/
def turn (s : State) : Turn :=
  if s.cpu.locked then .done (idle s)
  else if s.cpu.halted ∧ pending s = 0 then .done (idle s)
  else
    let s1 := mapCpu Cpu.wake s
    if s1.cpu.ime ∧ pending s1 ≠ 0 then .done (dispatch s1)
    else
      let r := fetchInstr (mapCpu Cpu.promoteIme s1)
      .run r.1 r.2

/-- Store a byte at a location. -/
def State.poke (v : Byte) (s : State) : Loc → State
  | .bootRom k => { s with cfg := { s.cfg with bootRom := s.cfg.bootRom.write k v } }
  | .cartRom k => { s with cfg := { s.cfg with cartRom := s.cfg.cartRom.write k v } }
  | .vram k => { s with vram := s.vram.write k v }
  | .wram k => { s with wram := s.wram.write k v }
  | .oam k => { s with oam := s.oam.write k v }
  | .hram k => { s with hram := s.hram.write k v }
  | .cartRam k => { s with cartRam := s.cartRam.write k v }
  | .wave k =>
    { s with audio := { s.audio with ch3 := { s.audio.ch3 with table := s.audio.ch3.table.write k v } } }

/-- Whether a byte placed at the address is still there when the step fetches it: it shows a memory byte
that no transfer of this step can change. -/
def holdsCode (s : State) (a : Word) : Bool :=
  match loadLoc s a with
  | none => false
  | some (.oam _) => !s.dma.active && s.dma.q1.isNone && s.dma.q2.isNone
  | some _ => true

/-- Place bytes at rising addresses, each where the bus reads it. -/
def placeBytes (a : Word) : List Byte → State → State
  | [], s => s
  | v :: bs, s =>
    match loadLoc s a with
    | none => placeBytes (a + 1) bs s
    | some l => placeBytes (a + 1) bs (s.poke v l)

/-- The next step fetches: neither locked nor halted, and no request would be taken first. -/
def readyToFetch (s : State) : State :=
  mapCpu (fun c => { c with locked := false, halted := false, ime := c.ime && pending s == 0 }) s

/-- Three bytes placed where the next step fetches: at PC, or, where PC shows no memory, at the start of WRAM
with PC there (log entry 14). -/
def placeAtFetch (bs : List Byte) (s : State) : State :=
  let s1 := readyToFetch s
  let pc := s1.cpu.pc
  if holdsCode s1 pc && holdsCode s1 (pc + 1) && holdsCode s1 (pc + 2) then placeBytes pc bs s1
  else placeBytes 0xC000 bs (mapCpu (Cpu.setPc 0xC000) s1)

/-- The bytes of a table word, padded with zeros to the longest instruction. -/
def placedBytes (nbits w : Nat) : List Byte := (tableBytes nbits w ++ [0, 0]).take 3

end Sys2Proof.Machine
end

