-- ==== Sys2Proof/Machine/Step.lean ====
section
/-! DEFINITION. One call of `instruction()` (spec/60_exceptions.md R410). -/

namespace Sys2Proof.Machine

/-- One step: `turn`, then the fetched instruction's meaning. -/
def step (s : State) : Host.Outcome State Fault Refusal :=
  match turn s with
  | .done t => .next t
  | .run i t => exec i t

/-- The state with a table word's instruction placed where the next step fetches (log entry 14). -/
def State.withFetchWord (s : State) (nbits w : Nat) : State := placeAtFetch (placedBytes nbits w) s

end Sys2Proof.Machine
end

