-- ==== Sys2Proof/Laws/Decode.lean ====
section
/-! SUPPORT. What the decoder answers by the length the first byte asks for. -/

namespace Sys2Proof

/-- A word is its two bytes. -/
theorem word_bytes (n : Word) : word (hiByte n) (loByte n) = n := by
  unfold word hiByte loByte
  ext i hi
  simp only [BitVec.getElem_append, BitVec.getElem_extractLsb']
  split
  · simp [BitVec.getLsbD_eq_getElem, hi]
  · have h : 8 + (i - 8) = i := by omega
    simp [BitVec.getLsbD_eq_getElem, h, hi]

theorem decode_one {o : Byte} (h : instrLen o = 1) (rest : List Byte) :
    decode (o :: rest) = .ok (decodeOp o 0 0, rest) := by
  have hcb : o ≠ 0xCB := by rintro rfl; exact absurd h (by decide)
  rcases rest with _ | ⟨b, _ | ⟨c, r⟩⟩
  · simp only [decode, if_neg hcb, h, if_true]
  · simp [decode, h]
  · simp [decode, h]

theorem decode_two {o : Byte} (h : instrLen o = 2) (b : Byte) (rest : List Byte) :
    decode (o :: b :: rest) = .ok (decodeOp o b 0, rest) := by
  rcases rest with _ | ⟨c, r⟩ <;> simp [decode, h]

theorem decode_three {o : Byte} (h : instrLen o = 3) (b c : Byte) (rest : List Byte) :
    decode (o :: b :: c :: rest) = .ok (decodeOp o b c, rest) := by
  simp [decode, h]

end Sys2Proof
end

