-- ==== Sys2Proof/Laws/PerInstr.lean ====
section
/-! SUPPORT. The round trip of the encoding, one lemma per constructor of Instr: decoding what encoding gave
returns the instruction. -/

namespace Sys2Proof.Laws.RoundTrip

/-- Decoding the encoding of a well-formed instruction, whatever bytes follow, gives it back with those bytes;
of the lone PREFIX_CB, where nothing follows (log entry 11). -/
def Statement (i : Instr) : Prop :=
  i.wellFormed = true → ∀ rest : List Byte, (i = .prefixCb → rest = []) → decode (encode i ++ rest) = .ok (i, rest)

theorem of_one {i : Instr} {o : Byte} (h : instrLen o = 1) (he : encode i = [o]) (hd : decodeOp o 0 0 = i) :
    Statement i := fun _ rest _ => by rw [he, ← hd]; exact decode_one h rest

theorem of_two {i : Instr} {o b : Byte} (h : instrLen o = 2) (he : encode i = [o, b]) (hd : decodeOp o b 0 = i) :
    Statement i := fun _ rest _ => by rw [he, ← hd]; exact decode_two h b rest

theorem of_word {f : Word → Instr} {n : Word} {o : Byte} (h : instrLen o = 3)
    (he : encode (f n) = [o, loByte n, hiByte n])
    (hd : decodeOp o (loByte n) (hiByte n) = f (word (hiByte n) (loByte n))) : Statement (f n) :=
  fun _ rest _ => by
    rw [word_bytes] at hd
    rw [he, ← hd]
    exact decode_three h _ _ rest

theorem nop : Statement .nop := of_one rfl rfl rfl
theorem ldBcN16 (n : Word) : Statement (.ldBcN16 n) := of_word rfl rfl rfl
theorem ldIndBcA : Statement .ldIndBcA := of_one rfl rfl rfl
theorem incBc : Statement .incBc := of_one rfl rfl rfl
theorem incB : Statement .incB := of_one rfl rfl rfl
theorem decB : Statement .decB := of_one rfl rfl rfl
theorem ldBN8 (n : Byte) : Statement (.ldBN8 n) := of_two rfl rfl rfl
theorem rlca : Statement .rlca := of_one rfl rfl rfl
theorem ldIndN16Sp (n : Word) : Statement (.ldIndN16Sp n) := of_word rfl rfl rfl
theorem addHlBc : Statement .addHlBc := of_one rfl rfl rfl
theorem ldAIndBc : Statement .ldAIndBc := of_one rfl rfl rfl
theorem decBc : Statement .decBc := of_one rfl rfl rfl
theorem incC : Statement .incC := of_one rfl rfl rfl
theorem decC : Statement .decC := of_one rfl rfl rfl
theorem ldCN8 (n : Byte) : Statement (.ldCN8 n) := of_two rfl rfl rfl
theorem rrca : Statement .rrca := of_one rfl rfl rfl
theorem stop : Statement .stop := of_one rfl rfl rfl
theorem ldDeN16 (n : Word) : Statement (.ldDeN16 n) := of_word rfl rfl rfl
theorem ldIndDeA : Statement .ldIndDeA := of_one rfl rfl rfl
theorem incDe : Statement .incDe := of_one rfl rfl rfl
theorem incD : Statement .incD := of_one rfl rfl rfl
theorem decD : Statement .decD := of_one rfl rfl rfl
theorem ldDN8 (n : Byte) : Statement (.ldDN8 n) := of_two rfl rfl rfl
theorem rla : Statement .rla := of_one rfl rfl rfl
theorem jrE8 (e : Byte) : Statement (.jrE8 e) := of_two rfl rfl rfl
theorem addHlDe : Statement .addHlDe := of_one rfl rfl rfl
theorem ldAIndDe : Statement .ldAIndDe := of_one rfl rfl rfl
theorem decDe : Statement .decDe := of_one rfl rfl rfl
theorem incE : Statement .incE := of_one rfl rfl rfl
theorem decE : Statement .decE := of_one rfl rfl rfl
theorem ldEN8 (n : Byte) : Statement (.ldEN8 n) := of_two rfl rfl rfl
theorem rra : Statement .rra := of_one rfl rfl rfl
theorem jrNzE8 (e : Byte) : Statement (.jrNzE8 e) := of_two rfl rfl rfl
theorem ldHlN16 (n : Word) : Statement (.ldHlN16 n) := of_word rfl rfl rfl
theorem ldIndHliA : Statement .ldIndHliA := of_one rfl rfl rfl
theorem incHl : Statement .incHl := of_one rfl rfl rfl
theorem incH : Statement .incH := of_one rfl rfl rfl
theorem decH : Statement .decH := of_one rfl rfl rfl
theorem ldHN8 (n : Byte) : Statement (.ldHN8 n) := of_two rfl rfl rfl
theorem daa : Statement .daa := of_one rfl rfl rfl
theorem jrZE8 (e : Byte) : Statement (.jrZE8 e) := of_two rfl rfl rfl
theorem addHlHl : Statement .addHlHl := of_one rfl rfl rfl
theorem ldAIndHli : Statement .ldAIndHli := of_one rfl rfl rfl
theorem decHl : Statement .decHl := of_one rfl rfl rfl
theorem incL : Statement .incL := of_one rfl rfl rfl
theorem decL : Statement .decL := of_one rfl rfl rfl
theorem ldLN8 (n : Byte) : Statement (.ldLN8 n) := of_two rfl rfl rfl
theorem cpl : Statement .cpl := of_one rfl rfl rfl
theorem jrNcE8 (e : Byte) : Statement (.jrNcE8 e) := of_two rfl rfl rfl
theorem ldSpN16 (n : Word) : Statement (.ldSpN16 n) := of_word rfl rfl rfl
theorem ldIndHldA : Statement .ldIndHldA := of_one rfl rfl rfl
theorem incSp : Statement .incSp := of_one rfl rfl rfl
theorem incIndHl : Statement .incIndHl := of_one rfl rfl rfl
theorem decIndHl : Statement .decIndHl := of_one rfl rfl rfl
theorem ldIndHlN8 (n : Byte) : Statement (.ldIndHlN8 n) := of_two rfl rfl rfl
theorem scf : Statement .scf := of_one rfl rfl rfl
theorem jrCE8 (e : Byte) : Statement (.jrCE8 e) := of_two rfl rfl rfl
theorem addHlSp : Statement .addHlSp := of_one rfl rfl rfl
theorem ldAIndHld : Statement .ldAIndHld := of_one rfl rfl rfl
theorem decSp : Statement .decSp := of_one rfl rfl rfl
theorem incA : Statement .incA := of_one rfl rfl rfl
theorem decA : Statement .decA := of_one rfl rfl rfl
theorem ldAN8 (n : Byte) : Statement (.ldAN8 n) := of_two rfl rfl rfl
theorem ccf : Statement .ccf := of_one rfl rfl rfl
theorem ldBB : Statement .ldBB := of_one rfl rfl rfl
theorem ldBC : Statement .ldBC := of_one rfl rfl rfl
theorem ldBD : Statement .ldBD := of_one rfl rfl rfl
theorem ldBE : Statement .ldBE := of_one rfl rfl rfl
theorem ldBH : Statement .ldBH := of_one rfl rfl rfl
theorem ldBL : Statement .ldBL := of_one rfl rfl rfl
theorem ldBIndHl : Statement .ldBIndHl := of_one rfl rfl rfl
theorem ldBA : Statement .ldBA := of_one rfl rfl rfl
theorem ldCB : Statement .ldCB := of_one rfl rfl rfl
theorem ldCC : Statement .ldCC := of_one rfl rfl rfl
theorem ldCD : Statement .ldCD := of_one rfl rfl rfl
theorem ldCE : Statement .ldCE := of_one rfl rfl rfl
theorem ldCH : Statement .ldCH := of_one rfl rfl rfl
theorem ldCL : Statement .ldCL := of_one rfl rfl rfl
theorem ldCIndHl : Statement .ldCIndHl := of_one rfl rfl rfl
theorem ldCA : Statement .ldCA := of_one rfl rfl rfl
theorem ldDB : Statement .ldDB := of_one rfl rfl rfl
theorem ldDC : Statement .ldDC := of_one rfl rfl rfl
theorem ldDD : Statement .ldDD := of_one rfl rfl rfl
theorem ldDE : Statement .ldDE := of_one rfl rfl rfl
theorem ldDH : Statement .ldDH := of_one rfl rfl rfl
theorem ldDL : Statement .ldDL := of_one rfl rfl rfl
theorem ldDIndHl : Statement .ldDIndHl := of_one rfl rfl rfl
theorem ldDA : Statement .ldDA := of_one rfl rfl rfl
theorem ldEB : Statement .ldEB := of_one rfl rfl rfl
theorem ldEC : Statement .ldEC := of_one rfl rfl rfl
theorem ldED : Statement .ldED := of_one rfl rfl rfl
theorem ldEE : Statement .ldEE := of_one rfl rfl rfl
theorem ldEH : Statement .ldEH := of_one rfl rfl rfl
theorem ldEL : Statement .ldEL := of_one rfl rfl rfl
theorem ldEIndHl : Statement .ldEIndHl := of_one rfl rfl rfl
theorem ldEA : Statement .ldEA := of_one rfl rfl rfl
theorem ldHB : Statement .ldHB := of_one rfl rfl rfl
theorem ldHC : Statement .ldHC := of_one rfl rfl rfl
theorem ldHD : Statement .ldHD := of_one rfl rfl rfl
theorem ldHE : Statement .ldHE := of_one rfl rfl rfl
theorem ldHH : Statement .ldHH := of_one rfl rfl rfl
theorem ldHL : Statement .ldHL := of_one rfl rfl rfl
theorem ldHIndHl : Statement .ldHIndHl := of_one rfl rfl rfl
theorem ldHA : Statement .ldHA := of_one rfl rfl rfl
theorem ldLB : Statement .ldLB := of_one rfl rfl rfl
theorem ldLC : Statement .ldLC := of_one rfl rfl rfl
theorem ldLD : Statement .ldLD := of_one rfl rfl rfl
theorem ldLE : Statement .ldLE := of_one rfl rfl rfl
theorem ldLH : Statement .ldLH := of_one rfl rfl rfl
theorem ldLL : Statement .ldLL := of_one rfl rfl rfl
theorem ldLIndHl : Statement .ldLIndHl := of_one rfl rfl rfl
theorem ldLA : Statement .ldLA := of_one rfl rfl rfl
theorem ldIndHlB : Statement .ldIndHlB := of_one rfl rfl rfl
theorem ldIndHlC : Statement .ldIndHlC := of_one rfl rfl rfl
theorem ldIndHlD : Statement .ldIndHlD := of_one rfl rfl rfl
theorem ldIndHlE : Statement .ldIndHlE := of_one rfl rfl rfl
theorem ldIndHlH : Statement .ldIndHlH := of_one rfl rfl rfl
theorem ldIndHlL : Statement .ldIndHlL := of_one rfl rfl rfl
theorem halt : Statement .halt := of_one rfl rfl rfl
theorem ldIndHlA : Statement .ldIndHlA := of_one rfl rfl rfl
theorem ldAB : Statement .ldAB := of_one rfl rfl rfl
theorem ldAC : Statement .ldAC := of_one rfl rfl rfl
theorem ldAD : Statement .ldAD := of_one rfl rfl rfl
theorem ldAE : Statement .ldAE := of_one rfl rfl rfl
theorem ldAH : Statement .ldAH := of_one rfl rfl rfl
theorem ldAL : Statement .ldAL := of_one rfl rfl rfl
theorem ldAIndHl : Statement .ldAIndHl := of_one rfl rfl rfl
theorem ldAA : Statement .ldAA := of_one rfl rfl rfl
theorem addAB : Statement .addAB := of_one rfl rfl rfl
theorem addAC : Statement .addAC := of_one rfl rfl rfl
theorem addAD : Statement .addAD := of_one rfl rfl rfl
theorem addAE : Statement .addAE := of_one rfl rfl rfl
theorem addAH : Statement .addAH := of_one rfl rfl rfl
theorem addAL : Statement .addAL := of_one rfl rfl rfl
theorem addAIndHl : Statement .addAIndHl := of_one rfl rfl rfl
theorem addAA : Statement .addAA := of_one rfl rfl rfl
theorem adcAB : Statement .adcAB := of_one rfl rfl rfl
theorem adcAC : Statement .adcAC := of_one rfl rfl rfl
theorem adcAD : Statement .adcAD := of_one rfl rfl rfl
theorem adcAE : Statement .adcAE := of_one rfl rfl rfl
theorem adcAH : Statement .adcAH := of_one rfl rfl rfl
theorem adcAL : Statement .adcAL := of_one rfl rfl rfl
theorem adcAIndHl : Statement .adcAIndHl := of_one rfl rfl rfl
theorem adcAA : Statement .adcAA := of_one rfl rfl rfl
theorem subB : Statement .subB := of_one rfl rfl rfl
theorem subC : Statement .subC := of_one rfl rfl rfl
theorem subD : Statement .subD := of_one rfl rfl rfl
theorem subE : Statement .subE := of_one rfl rfl rfl
theorem subH : Statement .subH := of_one rfl rfl rfl
theorem subL : Statement .subL := of_one rfl rfl rfl
theorem subIndHl : Statement .subIndHl := of_one rfl rfl rfl
theorem subA : Statement .subA := of_one rfl rfl rfl
theorem sbcAB : Statement .sbcAB := of_one rfl rfl rfl
theorem sbcAC : Statement .sbcAC := of_one rfl rfl rfl
theorem sbcAD : Statement .sbcAD := of_one rfl rfl rfl
theorem sbcAE : Statement .sbcAE := of_one rfl rfl rfl
theorem sbcAH : Statement .sbcAH := of_one rfl rfl rfl
theorem sbcAL : Statement .sbcAL := of_one rfl rfl rfl
theorem sbcAIndHl : Statement .sbcAIndHl := of_one rfl rfl rfl
theorem sbcAA : Statement .sbcAA := of_one rfl rfl rfl
theorem andB : Statement .andB := of_one rfl rfl rfl
theorem andC : Statement .andC := of_one rfl rfl rfl
theorem andD : Statement .andD := of_one rfl rfl rfl
theorem andE : Statement .andE := of_one rfl rfl rfl
theorem andH : Statement .andH := of_one rfl rfl rfl
theorem andL : Statement .andL := of_one rfl rfl rfl
theorem andIndHl : Statement .andIndHl := of_one rfl rfl rfl
theorem andA : Statement .andA := of_one rfl rfl rfl
theorem xorB : Statement .xorB := of_one rfl rfl rfl
theorem xorC : Statement .xorC := of_one rfl rfl rfl
theorem xorD : Statement .xorD := of_one rfl rfl rfl
theorem xorE : Statement .xorE := of_one rfl rfl rfl
theorem xorH : Statement .xorH := of_one rfl rfl rfl
theorem xorL : Statement .xorL := of_one rfl rfl rfl
theorem xorIndHl : Statement .xorIndHl := of_one rfl rfl rfl
theorem xorA : Statement .xorA := of_one rfl rfl rfl
theorem orB : Statement .orB := of_one rfl rfl rfl
theorem orC : Statement .orC := of_one rfl rfl rfl
theorem orD : Statement .orD := of_one rfl rfl rfl
theorem orE : Statement .orE := of_one rfl rfl rfl
theorem orH : Statement .orH := of_one rfl rfl rfl
theorem orL : Statement .orL := of_one rfl rfl rfl
theorem orIndHl : Statement .orIndHl := of_one rfl rfl rfl
theorem orA : Statement .orA := of_one rfl rfl rfl
theorem cpB : Statement .cpB := of_one rfl rfl rfl
theorem cpC : Statement .cpC := of_one rfl rfl rfl
theorem cpD : Statement .cpD := of_one rfl rfl rfl
theorem cpE : Statement .cpE := of_one rfl rfl rfl
theorem cpH : Statement .cpH := of_one rfl rfl rfl
theorem cpL : Statement .cpL := of_one rfl rfl rfl
theorem cpIndHl : Statement .cpIndHl := of_one rfl rfl rfl
theorem cpA : Statement .cpA := of_one rfl rfl rfl
theorem retNz : Statement .retNz := of_one rfl rfl rfl
theorem popBc : Statement .popBc := of_one rfl rfl rfl
theorem jpNzN16 (n : Word) : Statement (.jpNzN16 n) := of_word rfl rfl rfl
theorem jpN16 (n : Word) : Statement (.jpN16 n) := of_word rfl rfl rfl
theorem callNzN16 (n : Word) : Statement (.callNzN16 n) := of_word rfl rfl rfl
theorem pushBc : Statement .pushBc := of_one rfl rfl rfl
theorem addAN8 (n : Byte) : Statement (.addAN8 n) := of_two rfl rfl rfl
theorem rst00 : Statement .rst00 := of_one rfl rfl rfl
theorem retZ : Statement .retZ := of_one rfl rfl rfl
theorem ret : Statement .ret := of_one rfl rfl rfl
theorem jpZN16 (n : Word) : Statement (.jpZN16 n) := of_word rfl rfl rfl
theorem prefixCb : Statement .prefixCb := fun _ rest h => by rw [h rfl]; rfl
theorem callZN16 (n : Word) : Statement (.callZN16 n) := of_word rfl rfl rfl
theorem callN16 (n : Word) : Statement (.callN16 n) := of_word rfl rfl rfl
theorem adcAN8 (n : Byte) : Statement (.adcAN8 n) := of_two rfl rfl rfl
theorem rst08 : Statement .rst08 := of_one rfl rfl rfl
theorem retNc : Statement .retNc := of_one rfl rfl rfl
theorem popDe : Statement .popDe := of_one rfl rfl rfl
theorem jpNcN16 (n : Word) : Statement (.jpNcN16 n) := of_word rfl rfl rfl
theorem undefined (op : Byte) : Statement (.undefined op) := fun h rest _ => by
  have hm : op ∈ undefinedOpcodes := by simpa [Instr.wellFormed] using h
  simp only [undefinedOpcodes, List.mem_cons, List.not_mem_nil, or_false] at hm
  rcases hm with h | h | h | h | h | h | h | h | h | h | h <;> subst h <;> exact decode_one rfl rest
theorem callNcN16 (n : Word) : Statement (.callNcN16 n) := of_word rfl rfl rfl
theorem pushDe : Statement .pushDe := of_one rfl rfl rfl
theorem subN8 (n : Byte) : Statement (.subN8 n) := of_two rfl rfl rfl
theorem rst10 : Statement .rst10 := of_one rfl rfl rfl
theorem retC : Statement .retC := of_one rfl rfl rfl
theorem reti : Statement .reti := of_one rfl rfl rfl
theorem jpCN16 (n : Word) : Statement (.jpCN16 n) := of_word rfl rfl rfl
theorem callCN16 (n : Word) : Statement (.callCN16 n) := of_word rfl rfl rfl
theorem sbcAN8 (n : Byte) : Statement (.sbcAN8 n) := of_two rfl rfl rfl
theorem rst18 : Statement .rst18 := of_one rfl rfl rfl
theorem ldhIndN8A (n : Byte) : Statement (.ldhIndN8A n) := of_two rfl rfl rfl
theorem popHl : Statement .popHl := of_one rfl rfl rfl
theorem ldhIndCA : Statement .ldhIndCA := of_one rfl rfl rfl
theorem pushHl : Statement .pushHl := of_one rfl rfl rfl
theorem andN8 (n : Byte) : Statement (.andN8 n) := of_two rfl rfl rfl
theorem rst20 : Statement .rst20 := of_one rfl rfl rfl
theorem addSpE8 (e : Byte) : Statement (.addSpE8 e) := of_two rfl rfl rfl
theorem jpHl : Statement .jpHl := of_one rfl rfl rfl
theorem ldIndN16A (n : Word) : Statement (.ldIndN16A n) := of_word rfl rfl rfl
theorem xorN8 (n : Byte) : Statement (.xorN8 n) := of_two rfl rfl rfl
theorem rst28 : Statement .rst28 := of_one rfl rfl rfl
theorem ldhAIndN8 (n : Byte) : Statement (.ldhAIndN8 n) := of_two rfl rfl rfl
theorem popAf : Statement .popAf := of_one rfl rfl rfl
theorem ldhAIndC : Statement .ldhAIndC := of_one rfl rfl rfl
theorem di : Statement .di := of_one rfl rfl rfl
theorem pushAf : Statement .pushAf := of_one rfl rfl rfl
theorem orN8 (n : Byte) : Statement (.orN8 n) := of_two rfl rfl rfl
theorem rst30 : Statement .rst30 := of_one rfl rfl rfl
theorem ldHlSpE8 (e : Byte) : Statement (.ldHlSpE8 e) := of_two rfl rfl rfl
theorem ldSpHl : Statement .ldSpHl := of_one rfl rfl rfl
theorem ldAIndN16 (n : Word) : Statement (.ldAIndN16 n) := of_word rfl rfl rfl
theorem ei : Statement .ei := of_one rfl rfl rfl
theorem cpN8 (n : Byte) : Statement (.cpN8 n) := of_two rfl rfl rfl
theorem rst38 : Statement .rst38 := of_one rfl rfl rfl
theorem rlcB : Statement .rlcB := of_two rfl rfl rfl
theorem rlcC : Statement .rlcC := of_two rfl rfl rfl
theorem rlcD : Statement .rlcD := of_two rfl rfl rfl
theorem rlcE : Statement .rlcE := of_two rfl rfl rfl
theorem rlcH : Statement .rlcH := of_two rfl rfl rfl
theorem rlcL : Statement .rlcL := of_two rfl rfl rfl
theorem rlcIndHl : Statement .rlcIndHl := of_two rfl rfl rfl
theorem rlcA : Statement .rlcA := of_two rfl rfl rfl
theorem rrcB : Statement .rrcB := of_two rfl rfl rfl
theorem rrcC : Statement .rrcC := of_two rfl rfl rfl
theorem rrcD : Statement .rrcD := of_two rfl rfl rfl
theorem rrcE : Statement .rrcE := of_two rfl rfl rfl
theorem rrcH : Statement .rrcH := of_two rfl rfl rfl
theorem rrcL : Statement .rrcL := of_two rfl rfl rfl
theorem rrcIndHl : Statement .rrcIndHl := of_two rfl rfl rfl
theorem rrcA : Statement .rrcA := of_two rfl rfl rfl
theorem rlB : Statement .rlB := of_two rfl rfl rfl
theorem rlC : Statement .rlC := of_two rfl rfl rfl
theorem rlD : Statement .rlD := of_two rfl rfl rfl
theorem rlE : Statement .rlE := of_two rfl rfl rfl
theorem rlH : Statement .rlH := of_two rfl rfl rfl
theorem rlL : Statement .rlL := of_two rfl rfl rfl
theorem rlIndHl : Statement .rlIndHl := of_two rfl rfl rfl
theorem rlA : Statement .rlA := of_two rfl rfl rfl
theorem rrB : Statement .rrB := of_two rfl rfl rfl
theorem rrC : Statement .rrC := of_two rfl rfl rfl
theorem rrD : Statement .rrD := of_two rfl rfl rfl
theorem rrE : Statement .rrE := of_two rfl rfl rfl
theorem rrH : Statement .rrH := of_two rfl rfl rfl
theorem rrL : Statement .rrL := of_two rfl rfl rfl
theorem rrIndHl : Statement .rrIndHl := of_two rfl rfl rfl
theorem rrA : Statement .rrA := of_two rfl rfl rfl
theorem slaB : Statement .slaB := of_two rfl rfl rfl
theorem slaC : Statement .slaC := of_two rfl rfl rfl
theorem slaD : Statement .slaD := of_two rfl rfl rfl
theorem slaE : Statement .slaE := of_two rfl rfl rfl
theorem slaH : Statement .slaH := of_two rfl rfl rfl
theorem slaL : Statement .slaL := of_two rfl rfl rfl
theorem slaIndHl : Statement .slaIndHl := of_two rfl rfl rfl
theorem slaA : Statement .slaA := of_two rfl rfl rfl
theorem sraB : Statement .sraB := of_two rfl rfl rfl
theorem sraC : Statement .sraC := of_two rfl rfl rfl
theorem sraD : Statement .sraD := of_two rfl rfl rfl
theorem sraE : Statement .sraE := of_two rfl rfl rfl
theorem sraH : Statement .sraH := of_two rfl rfl rfl
theorem sraL : Statement .sraL := of_two rfl rfl rfl
theorem sraIndHl : Statement .sraIndHl := of_two rfl rfl rfl
theorem sraA : Statement .sraA := of_two rfl rfl rfl
theorem swapB : Statement .swapB := of_two rfl rfl rfl
theorem swapC : Statement .swapC := of_two rfl rfl rfl
theorem swapD : Statement .swapD := of_two rfl rfl rfl
theorem swapE : Statement .swapE := of_two rfl rfl rfl
theorem swapH : Statement .swapH := of_two rfl rfl rfl
theorem swapL : Statement .swapL := of_two rfl rfl rfl
theorem swapIndHl : Statement .swapIndHl := of_two rfl rfl rfl
theorem swapA : Statement .swapA := of_two rfl rfl rfl
theorem srlB : Statement .srlB := of_two rfl rfl rfl
theorem srlC : Statement .srlC := of_two rfl rfl rfl
theorem srlD : Statement .srlD := of_two rfl rfl rfl
theorem srlE : Statement .srlE := of_two rfl rfl rfl
theorem srlH : Statement .srlH := of_two rfl rfl rfl
theorem srlL : Statement .srlL := of_two rfl rfl rfl
theorem srlIndHl : Statement .srlIndHl := of_two rfl rfl rfl
theorem srlA : Statement .srlA := of_two rfl rfl rfl
theorem bit0B : Statement .bit0B := of_two rfl rfl rfl
theorem bit0C : Statement .bit0C := of_two rfl rfl rfl
theorem bit0D : Statement .bit0D := of_two rfl rfl rfl
theorem bit0E : Statement .bit0E := of_two rfl rfl rfl
theorem bit0H : Statement .bit0H := of_two rfl rfl rfl
theorem bit0L : Statement .bit0L := of_two rfl rfl rfl
theorem bit0IndHl : Statement .bit0IndHl := of_two rfl rfl rfl
theorem bit0A : Statement .bit0A := of_two rfl rfl rfl
theorem bit1B : Statement .bit1B := of_two rfl rfl rfl
theorem bit1C : Statement .bit1C := of_two rfl rfl rfl
theorem bit1D : Statement .bit1D := of_two rfl rfl rfl
theorem bit1E : Statement .bit1E := of_two rfl rfl rfl
theorem bit1H : Statement .bit1H := of_two rfl rfl rfl
theorem bit1L : Statement .bit1L := of_two rfl rfl rfl
theorem bit1IndHl : Statement .bit1IndHl := of_two rfl rfl rfl
theorem bit1A : Statement .bit1A := of_two rfl rfl rfl
theorem bit2B : Statement .bit2B := of_two rfl rfl rfl
theorem bit2C : Statement .bit2C := of_two rfl rfl rfl
theorem bit2D : Statement .bit2D := of_two rfl rfl rfl
theorem bit2E : Statement .bit2E := of_two rfl rfl rfl
theorem bit2H : Statement .bit2H := of_two rfl rfl rfl
theorem bit2L : Statement .bit2L := of_two rfl rfl rfl
theorem bit2IndHl : Statement .bit2IndHl := of_two rfl rfl rfl
theorem bit2A : Statement .bit2A := of_two rfl rfl rfl
theorem bit3B : Statement .bit3B := of_two rfl rfl rfl
theorem bit3C : Statement .bit3C := of_two rfl rfl rfl
theorem bit3D : Statement .bit3D := of_two rfl rfl rfl
theorem bit3E : Statement .bit3E := of_two rfl rfl rfl
theorem bit3H : Statement .bit3H := of_two rfl rfl rfl
theorem bit3L : Statement .bit3L := of_two rfl rfl rfl
theorem bit3IndHl : Statement .bit3IndHl := of_two rfl rfl rfl
theorem bit3A : Statement .bit3A := of_two rfl rfl rfl
theorem bit4B : Statement .bit4B := of_two rfl rfl rfl
theorem bit4C : Statement .bit4C := of_two rfl rfl rfl
theorem bit4D : Statement .bit4D := of_two rfl rfl rfl
theorem bit4E : Statement .bit4E := of_two rfl rfl rfl
theorem bit4H : Statement .bit4H := of_two rfl rfl rfl
theorem bit4L : Statement .bit4L := of_two rfl rfl rfl
theorem bit4IndHl : Statement .bit4IndHl := of_two rfl rfl rfl
theorem bit4A : Statement .bit4A := of_two rfl rfl rfl
theorem bit5B : Statement .bit5B := of_two rfl rfl rfl
theorem bit5C : Statement .bit5C := of_two rfl rfl rfl
theorem bit5D : Statement .bit5D := of_two rfl rfl rfl
theorem bit5E : Statement .bit5E := of_two rfl rfl rfl
theorem bit5H : Statement .bit5H := of_two rfl rfl rfl
theorem bit5L : Statement .bit5L := of_two rfl rfl rfl
theorem bit5IndHl : Statement .bit5IndHl := of_two rfl rfl rfl
theorem bit5A : Statement .bit5A := of_two rfl rfl rfl
theorem bit6B : Statement .bit6B := of_two rfl rfl rfl
theorem bit6C : Statement .bit6C := of_two rfl rfl rfl
theorem bit6D : Statement .bit6D := of_two rfl rfl rfl
theorem bit6E : Statement .bit6E := of_two rfl rfl rfl
theorem bit6H : Statement .bit6H := of_two rfl rfl rfl
theorem bit6L : Statement .bit6L := of_two rfl rfl rfl
theorem bit6IndHl : Statement .bit6IndHl := of_two rfl rfl rfl
theorem bit6A : Statement .bit6A := of_two rfl rfl rfl
theorem bit7B : Statement .bit7B := of_two rfl rfl rfl
theorem bit7C : Statement .bit7C := of_two rfl rfl rfl
theorem bit7D : Statement .bit7D := of_two rfl rfl rfl
theorem bit7E : Statement .bit7E := of_two rfl rfl rfl
theorem bit7H : Statement .bit7H := of_two rfl rfl rfl
theorem bit7L : Statement .bit7L := of_two rfl rfl rfl
theorem bit7IndHl : Statement .bit7IndHl := of_two rfl rfl rfl
theorem bit7A : Statement .bit7A := of_two rfl rfl rfl
theorem res0B : Statement .res0B := of_two rfl rfl rfl
theorem res0C : Statement .res0C := of_two rfl rfl rfl
theorem res0D : Statement .res0D := of_two rfl rfl rfl
theorem res0E : Statement .res0E := of_two rfl rfl rfl
theorem res0H : Statement .res0H := of_two rfl rfl rfl
theorem res0L : Statement .res0L := of_two rfl rfl rfl
theorem res0IndHl : Statement .res0IndHl := of_two rfl rfl rfl
theorem res0A : Statement .res0A := of_two rfl rfl rfl
theorem res1B : Statement .res1B := of_two rfl rfl rfl
theorem res1C : Statement .res1C := of_two rfl rfl rfl
theorem res1D : Statement .res1D := of_two rfl rfl rfl
theorem res1E : Statement .res1E := of_two rfl rfl rfl
theorem res1H : Statement .res1H := of_two rfl rfl rfl
theorem res1L : Statement .res1L := of_two rfl rfl rfl
theorem res1IndHl : Statement .res1IndHl := of_two rfl rfl rfl
theorem res1A : Statement .res1A := of_two rfl rfl rfl
theorem res2B : Statement .res2B := of_two rfl rfl rfl
theorem res2C : Statement .res2C := of_two rfl rfl rfl
theorem res2D : Statement .res2D := of_two rfl rfl rfl
theorem res2E : Statement .res2E := of_two rfl rfl rfl
theorem res2H : Statement .res2H := of_two rfl rfl rfl
theorem res2L : Statement .res2L := of_two rfl rfl rfl
theorem res2IndHl : Statement .res2IndHl := of_two rfl rfl rfl
theorem res2A : Statement .res2A := of_two rfl rfl rfl
theorem res3B : Statement .res3B := of_two rfl rfl rfl
theorem res3C : Statement .res3C := of_two rfl rfl rfl
theorem res3D : Statement .res3D := of_two rfl rfl rfl
theorem res3E : Statement .res3E := of_two rfl rfl rfl
theorem res3H : Statement .res3H := of_two rfl rfl rfl
theorem res3L : Statement .res3L := of_two rfl rfl rfl
theorem res3IndHl : Statement .res3IndHl := of_two rfl rfl rfl
theorem res3A : Statement .res3A := of_two rfl rfl rfl
theorem res4B : Statement .res4B := of_two rfl rfl rfl
theorem res4C : Statement .res4C := of_two rfl rfl rfl
theorem res4D : Statement .res4D := of_two rfl rfl rfl
theorem res4E : Statement .res4E := of_two rfl rfl rfl
theorem res4H : Statement .res4H := of_two rfl rfl rfl
theorem res4L : Statement .res4L := of_two rfl rfl rfl
theorem res4IndHl : Statement .res4IndHl := of_two rfl rfl rfl
theorem res4A : Statement .res4A := of_two rfl rfl rfl
theorem res5B : Statement .res5B := of_two rfl rfl rfl
theorem res5C : Statement .res5C := of_two rfl rfl rfl
theorem res5D : Statement .res5D := of_two rfl rfl rfl
theorem res5E : Statement .res5E := of_two rfl rfl rfl
theorem res5H : Statement .res5H := of_two rfl rfl rfl
theorem res5L : Statement .res5L := of_two rfl rfl rfl
theorem res5IndHl : Statement .res5IndHl := of_two rfl rfl rfl
theorem res5A : Statement .res5A := of_two rfl rfl rfl
theorem res6B : Statement .res6B := of_two rfl rfl rfl
theorem res6C : Statement .res6C := of_two rfl rfl rfl
theorem res6D : Statement .res6D := of_two rfl rfl rfl
theorem res6E : Statement .res6E := of_two rfl rfl rfl
theorem res6H : Statement .res6H := of_two rfl rfl rfl
theorem res6L : Statement .res6L := of_two rfl rfl rfl
theorem res6IndHl : Statement .res6IndHl := of_two rfl rfl rfl
theorem res6A : Statement .res6A := of_two rfl rfl rfl
theorem res7B : Statement .res7B := of_two rfl rfl rfl
theorem res7C : Statement .res7C := of_two rfl rfl rfl
theorem res7D : Statement .res7D := of_two rfl rfl rfl
theorem res7E : Statement .res7E := of_two rfl rfl rfl
theorem res7H : Statement .res7H := of_two rfl rfl rfl
theorem res7L : Statement .res7L := of_two rfl rfl rfl
theorem res7IndHl : Statement .res7IndHl := of_two rfl rfl rfl
theorem res7A : Statement .res7A := of_two rfl rfl rfl
theorem set0B : Statement .set0B := of_two rfl rfl rfl
theorem set0C : Statement .set0C := of_two rfl rfl rfl
theorem set0D : Statement .set0D := of_two rfl rfl rfl
theorem set0E : Statement .set0E := of_two rfl rfl rfl
theorem set0H : Statement .set0H := of_two rfl rfl rfl
theorem set0L : Statement .set0L := of_two rfl rfl rfl
theorem set0IndHl : Statement .set0IndHl := of_two rfl rfl rfl
theorem set0A : Statement .set0A := of_two rfl rfl rfl
theorem set1B : Statement .set1B := of_two rfl rfl rfl
theorem set1C : Statement .set1C := of_two rfl rfl rfl
theorem set1D : Statement .set1D := of_two rfl rfl rfl
theorem set1E : Statement .set1E := of_two rfl rfl rfl
theorem set1H : Statement .set1H := of_two rfl rfl rfl
theorem set1L : Statement .set1L := of_two rfl rfl rfl
theorem set1IndHl : Statement .set1IndHl := of_two rfl rfl rfl
theorem set1A : Statement .set1A := of_two rfl rfl rfl
theorem set2B : Statement .set2B := of_two rfl rfl rfl
theorem set2C : Statement .set2C := of_two rfl rfl rfl
theorem set2D : Statement .set2D := of_two rfl rfl rfl
theorem set2E : Statement .set2E := of_two rfl rfl rfl
theorem set2H : Statement .set2H := of_two rfl rfl rfl
theorem set2L : Statement .set2L := of_two rfl rfl rfl
theorem set2IndHl : Statement .set2IndHl := of_two rfl rfl rfl
theorem set2A : Statement .set2A := of_two rfl rfl rfl
theorem set3B : Statement .set3B := of_two rfl rfl rfl
theorem set3C : Statement .set3C := of_two rfl rfl rfl
theorem set3D : Statement .set3D := of_two rfl rfl rfl
theorem set3E : Statement .set3E := of_two rfl rfl rfl
theorem set3H : Statement .set3H := of_two rfl rfl rfl
theorem set3L : Statement .set3L := of_two rfl rfl rfl
theorem set3IndHl : Statement .set3IndHl := of_two rfl rfl rfl
theorem set3A : Statement .set3A := of_two rfl rfl rfl
theorem set4B : Statement .set4B := of_two rfl rfl rfl
theorem set4C : Statement .set4C := of_two rfl rfl rfl
theorem set4D : Statement .set4D := of_two rfl rfl rfl
theorem set4E : Statement .set4E := of_two rfl rfl rfl
theorem set4H : Statement .set4H := of_two rfl rfl rfl
theorem set4L : Statement .set4L := of_two rfl rfl rfl
theorem set4IndHl : Statement .set4IndHl := of_two rfl rfl rfl
theorem set4A : Statement .set4A := of_two rfl rfl rfl
theorem set5B : Statement .set5B := of_two rfl rfl rfl
theorem set5C : Statement .set5C := of_two rfl rfl rfl
theorem set5D : Statement .set5D := of_two rfl rfl rfl
theorem set5E : Statement .set5E := of_two rfl rfl rfl
theorem set5H : Statement .set5H := of_two rfl rfl rfl
theorem set5L : Statement .set5L := of_two rfl rfl rfl
theorem set5IndHl : Statement .set5IndHl := of_two rfl rfl rfl
theorem set5A : Statement .set5A := of_two rfl rfl rfl
theorem set6B : Statement .set6B := of_two rfl rfl rfl
theorem set6C : Statement .set6C := of_two rfl rfl rfl
theorem set6D : Statement .set6D := of_two rfl rfl rfl
theorem set6E : Statement .set6E := of_two rfl rfl rfl
theorem set6H : Statement .set6H := of_two rfl rfl rfl
theorem set6L : Statement .set6L := of_two rfl rfl rfl
theorem set6IndHl : Statement .set6IndHl := of_two rfl rfl rfl
theorem set6A : Statement .set6A := of_two rfl rfl rfl
theorem set7B : Statement .set7B := of_two rfl rfl rfl
theorem set7C : Statement .set7C := of_two rfl rfl rfl
theorem set7D : Statement .set7D := of_two rfl rfl rfl
theorem set7E : Statement .set7E := of_two rfl rfl rfl
theorem set7H : Statement .set7H := of_two rfl rfl rfl
theorem set7L : Statement .set7L := of_two rfl rfl rfl
theorem set7IndHl : Statement .set7IndHl := of_two rfl rfl rfl
theorem set7A : Statement .set7A := of_two rfl rfl rfl

end Sys2Proof.Laws.RoundTrip
end

