-- ==== Sys2Proof/Machine/Boot.lean ====
section
/-! DEFINITION. The post-boot profile and a reset applied again (spec/70_reset_and_hazards.md R650, R654). -/

namespace Sys2Proof.Machine

/-- The post-boot profile: what a model without a boot ROM image may start from; informative in the spec, no
reset value (70_reset_and_hazards.md R654; log entry 19). -/
def State.postBoot (cfg : Config) (p : PowerOn) : State :=
  let s := State.powerOn cfg p
  { s with
    cpu :=
      { s.cpu with
        a := 0x01, f := 0xB0, b := 0x00, c := 0x13, d := 0x00, e := 0xD8, h := 0x01, l := 0x4D
        sp := 0xFFFE, pc := 0x0100 }
    bootDisabled := true
    video := { s.video with lcdc := 0x91, bgp := 0xFC }
    audio := { s.audio with on := true, nr50 := 0x77, nr51 := 0xF3 } }

/-- A host that applies reset again performs power-on reset, but cartridge RAM keeps its bytes
(70_reset_and_hazards.md R650; log entry 20). -/
def State.resetAgain (p : PowerOn) (s : State) : State :=
  { State.powerOn s.cfg p with cartRam := s.cartRam }

end Sys2Proof.Machine
end

