-- ==== Sys2Proof/Machine/Timing.lean ====
section
/-! DEFINITION. How many M-cycles an instruction takes (spec/opcode_table.json, "mcycles"; spec/30_encoding.md
R179, R180). The machine does not use this table: it ticks at each bus access, and a statement compares the
two. -/

namespace Sys2Proof

/-- The M-cycles of the primary opcodes in the map's order, a conditional transfer not taken, CB without its
second instruction. -/
def primaryCycles : List Nat :=
  [1, 3, 2, 2, 1, 1, 2, 1, 5, 2, 2, 2, 1, 1, 2, 1] ++
  [1, 3, 2, 2, 1, 1, 2, 1, 3, 2, 2, 2, 1, 1, 2, 1] ++
  [2, 3, 2, 2, 1, 1, 2, 1, 2, 2, 2, 2, 1, 1, 2, 1] ++
  [2, 3, 2, 2, 3, 3, 3, 1, 2, 2, 2, 2, 1, 1, 2, 1] ++
  [1, 1, 1, 1, 1, 1, 2, 1, 1, 1, 1, 1, 1, 1, 2, 1] ++
  [1, 1, 1, 1, 1, 1, 2, 1, 1, 1, 1, 1, 1, 1, 2, 1] ++
  [1, 1, 1, 1, 1, 1, 2, 1, 1, 1, 1, 1, 1, 1, 2, 1] ++
  [2, 2, 2, 2, 2, 2, 1, 2, 1, 1, 1, 1, 1, 1, 2, 1] ++
  [1, 1, 1, 1, 1, 1, 2, 1, 1, 1, 1, 1, 1, 1, 2, 1] ++
  [1, 1, 1, 1, 1, 1, 2, 1, 1, 1, 1, 1, 1, 1, 2, 1] ++
  [1, 1, 1, 1, 1, 1, 2, 1, 1, 1, 1, 1, 1, 1, 2, 1] ++
  [1, 1, 1, 1, 1, 1, 2, 1, 1, 1, 1, 1, 1, 1, 2, 1] ++
  [2, 3, 3, 4, 3, 4, 2, 4, 2, 4, 3, 1, 3, 6, 2, 4] ++
  [2, 3, 3, 1, 3, 4, 2, 4, 2, 4, 3, 1, 3, 1, 2, 4] ++
  [3, 3, 2, 1, 1, 4, 2, 4, 4, 1, 4, 1, 1, 1, 2, 4] ++
  [3, 3, 2, 1, 1, 4, 2, 4, 3, 2, 4, 1, 1, 1, 2, 4]

/-- The conditional transfers of one and of three M-cycles more when taken: JR cc and JP cc; RET cc and CALL cc. -/
def jumpIfOpcodes : List Byte := [0x20, 0x28, 0x30, 0x38, 0xC2, 0xCA, 0xD2, 0xDA]
def stackIfOpcodes : List Byte := [0xC0, 0xC4, 0xC8, 0xCC, 0xD0, 0xD4, 0xD8, 0xDC]

/-- The condition a conditional transfer names (30_encoding.md R175). -/
def condOfOpcode (o : Byte) : Cond := condOfCode (fieldY o % 4)

/-- The M-cycles of the instruction with first byte `o` and second byte `b1`, flags `f` deciding a conditional
transfer. -/
def mcycles (o b1 f : Byte) : Nat :=
  if o = 0xCB then (if fieldZ b1 = 6 then (if fieldX b1 = 1 then 3 else 4) else 2)
  else if jumpIfOpcodes.contains o && condHolds (condOfOpcode o) f then primaryCycles.getD o.toNat 0 + 1
  else if stackIfOpcodes.contains o && condHolds (condOfOpcode o) f then primaryCycles.getD o.toNat 0 + 3
  else primaryCycles.getD o.toNat 0

end Sys2Proof
end

