-- ==== Sys2Proof/Safety.lean ====
section
/-! DEFINITION. What claims about runs are stated in: when a step fetches, which bytes a tick cannot change,
and the machine's invariant. -/

namespace Sys2Proof

/-- A condition on F (30_encoding.md R175). -/
def Cond.Holds (cc : Cond) (f : Byte) : Prop :=
  match cc with
  | .nz => f.getLsbD 7 = false
  | .z => f.getLsbD 7 = true
  | .nc => f.getLsbD 4 = false
  | .c => f.getLsbD 4 = true

end Sys2Proof

namespace Sys2Proof.Machine

/-- The step will fetch an instruction: not locked, not halted without a request, no interrupt to take
(60_exceptions.md R410). -/
def State.fetches (s : State) : Prop :=
  s.cpu.locked = false ∧ ¬(s.cpu.halted = true ∧ pending s = 0) ∧ ¬(s.cpu.ime = true ∧ pending s ≠ 0)

/-- The state the opcode fetch starts from: awake, with IME promoted (60_exceptions.md R410). -/
def State.beforeFetch (s : State) : State := mapCpu Cpu.promoteIme (mapCpu Cpu.wake s)

/-- No OAM transfer is running or queued (61_timer_dma_joypad.md R460, R461). -/
def Dma.quiet (d : Dma) : Prop := d.active = false ∧ d.q1 = none ∧ d.q2 = none

/-- An address no tick changes the read value of: neither OAM nor an I/O register. -/
def plainAddr (a : Word) : Prop := a.toNat < 0xFE00 ∨ 0xFF80 ≤ a.toNat ∨ (0xFEA0 ≤ a.toNat ∧ a.toNat ≤ 0xFEFF)

/-- A memory image of an array of `n` bytes in canonical form. -/
structure ArrayOf (n : Nat) (m : Memory) : Prop where
  wf : m.wf
  bound : ∀ c ∈ m, c.1 < n

/-- The location is not in OAM. -/
def Loc.plain : Loc → Prop
  | .oam _ => False
  | _ => True

/-- A location the passing of time cannot change: outside OAM, or anywhere while no transfer is running or
queued. -/
def State.still (s : State) (l : Loc) : Prop := l.plain ∨ s.dma.quiet

/-- The registers a program sets and no device changes: IE, the boot latch, the cartridge's, SB and SC, TMA,
TAC, P1's select bits, 0xFF46, the video unit's, the audio unit's but for channel 1's period; and the
parameters. -/
structure Settings where
  ie : Byte
  bootDisabled : Bool
  cart : Cart
  serial : Serial
  tma : Byte
  tac : BitVec 3
  joySel : BitVec 2
  dmaReg : Byte
  statEn : BitVec 4
  video : List Byte
  audioOn : Bool
  audio : List Byte
  cfg : Config
  deriving DecidableEq, Repr

def State.settings (s : State) : Settings where
  ie := s.ie
  bootDisabled := s.bootDisabled
  cart := s.cart
  serial := s.serial
  tma := s.timer.tma
  tac := s.timer.tac
  joySel := s.joypad.sel
  dmaReg := s.dma.reg
  statEn := s.video.statEn
  video :=
    [s.video.lcdc, s.video.scy, s.video.scx, s.video.lyc, s.video.bgp, s.video.obp0, s.video.obp1, s.video.wy,
     s.video.wx]
  audioOn := s.audio.on
  audio :=
    [s.audio.sweep.nr10, s.audio.ch1.nrx1, s.audio.ch1.nrx2, s.audio.ch2.nrx1, s.audio.ch2.nrx2,
     s.audio.ch2.nrx3, s.audio.ch2.nrx4, s.audio.ch3.nr30, s.audio.ch3.nr31, s.audio.ch3.nr32, s.audio.ch3.nr33,
     s.audio.ch3.nr34, s.audio.ch4.nr41, s.audio.ch4.nr42, s.audio.ch4.nr43, s.audio.ch4.nr44, s.audio.nr50,
     s.audio.nr51]
  cfg := s.cfg

/-- What an instruction that stores nothing leaves alone: every setting, every pending request, every memory
byte time cannot change, and what the bus reads at every plain address. -/
structure Undisturbed (s t : State) : Prop where
  settings : t.settings = s.settings
  requests : s.ifl &&& t.ifl = s.ifl
  memory : ∀ l, s.still l → t.byteAt l = s.byteAt l
  reads : ∀ a, plainAddr a → busRead t a = busRead s a

/-- From `s` to `t`, `n` M-cycles have passed, only the CPU's registers have changed beside, and the rest is
undisturbed. -/
structure Elapsed (n : Nat) (s t : State) : Prop where
  time : t = { ticks n s with cpu := t.cpu }
  frame : Undisturbed s t

/-- From `s` to `t`, after `n` M-cycles one more has passed whose data transfer writes `v` at address `a`, and
only the CPU's registers have changed beside: the byte is stored where the bus decodes `a`, and every other
memory byte and every setting the address does not name is as before. -/
structure Stored (n : Nat) (s t : State) (a : Word) (v : Byte) : Prop where
  effect : t = { memWrite (ticks n s) a v with cpu := t.cpu }
  settings : t.settings = (busWrite s a v).settings
  requests : regionOf a ≠ .io .iflag → s.ifl &&& t.ifl = s.ifl
  memory : ∀ l, s.still l →
    t.byteAt l = if storeLoc (transferState (ticks n s)) a = some l then v else s.byteAt l

/-- From `s` to `t`, after `n` M-cycles two more have passed that write `v1` at `a1`, then `v2` at `a2`; nothing
else is stored. -/
structure StoredTwo (n : Nat) (s t : State) (a1 : Word) (v1 : Byte) (a2 : Word) (v2 : Byte) : Prop where
  effect : t = { memWrite (memWrite (ticks n s) a1 v1) a2 v2 with cpu := t.cpu }
  settings : t.settings = (busWrite (busWrite s a1 v1) a2 v2).settings
  requests : regionOf a1 ≠ .io .iflag → regionOf a2 ≠ .io .iflag → s.ifl &&& t.ifl = s.ifl
  memory : ∀ l, s.still l → t.byteAt l =
    if storeLoc (transferState (memWrite (ticks n s) a1 v1)) a2 = some l then v2
    else if storeLoc (transferState (ticks n s)) a1 = some l then v1
    else s.byteAt l

/-! Register frames, each said through what the registers read as. -/

/-- PC and the execution bits are as before. -/
structure Cpu.SameControl (c d : Cpu) : Prop where
  pc : d.pc = c.pc
  ime : d.ime = c.ime
  imePending : d.imePending = c.imePending
  halted : d.halted = c.halted
  locked : d.locked = c.locked

/-- Register `r` holds `v`, F is `f`, and nothing else has changed. -/
structure Cpu.Wrote8 (r : Reg8) (v f : Byte) (c d : Cpu) : Prop where
  value : d.reg8 r = v
  others : ∀ q, q ≠ r → d.reg8 q = c.reg8 q
  flags : d.f = f
  sp : d.sp = c.sp
  control : c.SameControl d

/-- Pair `p` holds `v`, F is `f`, and nothing else has changed. -/
structure Cpu.WroteRp (p : Rp) (v : Word) (f : Byte) (c d : Cpu) : Prop where
  value : d.rp p = v
  others : ∀ q, q ≠ p → d.rp q = c.rp q
  a : d.a = c.a
  flags : d.f = f
  control : c.SameControl d

/-- The four flags of `f`, as propositions; the low nibble is zero (10_state.md R32, R35). -/
structure FlagsAre (f : Byte) (z n h c : Prop) : Prop where
  z : f.getLsbD 7 = true ↔ z
  n : f.getLsbD 6 = true ↔ n
  h : f.getLsbD 5 = true ↔ h
  c : f.getLsbD 4 = true ↔ c
  low : f.toNat % 16 = 0

/-- A becomes A plus `v` plus the carry `k`, with an addition's flags; nothing else has changed
(41_alu8.md R250). -/
structure Cpu.Added (v : Byte) (k : Nat) (c d : Cpu) : Prop where
  a : d.a.toNat = (c.a.toNat + v.toNat + k) % 256
  flags : FlagsAre d.f (d.a = 0) False (15 < c.a.toNat % 16 + v.toNat % 16 + k) (255 < c.a.toNat + v.toNat + k)
  rest : d = { c with a := d.a, f := d.f }

/-- `r` is A minus `v` minus the borrow `k`, and F has a subtraction's flags (41_alu8.md R250). -/
structure Cpu.Difference (v : Byte) (k : Nat) (c : Cpu) (r f : Byte) : Prop where
  value : (r.toNat + v.toNat + k) % 256 = c.a.toNat
  flags : FlagsAre f (r = 0) True (c.a.toNat % 16 < v.toNat % 16 + k) (c.a.toNat < v.toNat + k)

/-- The carry flag as a number. -/
def Cpu.carry (c : Cpu) : Nat := (c.f.getLsbD 4).toNat

/-- Bit `i` of the result of a CB shift of `v` with carry in `c` (43_rotate_shift_bit.md R324, bit by bit). -/
def shiftBit (op : ShiftOp) (v : Byte) (c : Bool) (i : Nat) : Bool :=
  match op with
  | .rlc => if i = 0 then v.getLsbD 7 else v.getLsbD (i - 1)
  | .rrc => if i = 7 then v.getLsbD 0 else v.getLsbD (i + 1)
  | .rl => if i = 0 then c else v.getLsbD (i - 1)
  | .rr => if i = 7 then c else v.getLsbD (i + 1)
  | .sla => if i = 0 then false else v.getLsbD (i - 1)
  | .sra => if i = 7 then v.getLsbD 7 else v.getLsbD (i + 1)
  | .swap => v.getLsbD ((i + 4) % 8)
  | .srl => if i = 7 then false else v.getLsbD (i + 1)

/-- The bit a CB shift puts into C (43_rotate_shift_bit.md R324). -/
def shiftOut (op : ShiftOp) (v : Byte) : Bool :=
  match op with
  | .rlc | .rl | .sla => v.getLsbD 7
  | .rrc | .rr | .sra | .srl => v.getLsbD 0
  | .swap => false

/-- The first `n` bytes at PC, fetched one per M-cycle, and the state after them (30_encoding.md R171). -/
def fetchBytes : Nat → State → List Byte × State
  | 0, s => ([], s)
  | n + 1, s =>
    let r := fetch8 s
    let q := fetchBytes n r.2
    (r.1 :: q.1, q.2)

/-- The address is in WRAM, its mirror or HRAM. -/
def ramAddr (a : Word) : Prop := (0xC000 ≤ a.toNat ∧ a.toNat ≤ 0xFDFF) ∨ (0xFF80 ≤ a.toNat ∧ a.toNat ≤ 0xFFFE)

/-- The dot about to execute, counted from the start of the frame (62_video.md R510). -/
def Video.framePos (v : Video) : Nat := 456 * v.ly + v.dot

/-- An 8-bit operation with operand `v`, in its three forms: on a register, on the byte at HL, on an immediate.
`P v c d` says what it does to the CPU. -/
def AluForms (op : AluOp) (P : Byte → Cpu → Cpu → Prop) : Prop :=
  ∀ s : State,
    (∀ r, ∃ t, exec (.alu op (.reg r)) s = .next t ∧ P (s.cpu.reg8 r) s.cpu t.cpu ∧ Elapsed 0 s t) ∧
    (∃ t, exec (.alu op .indHl) s = .next t ∧ P (busRead (transferState s) s.cpu.hl) s.cpu t.cpu ∧ Elapsed 1 s t) ∧
    ∀ n, ∃ t, exec (.aluImm op n) s = .next t ∧ P n s.cpu t.cpu ∧ Elapsed 0 s t

/-- An operation that reads an 8-bit operand and writes its result back, in its two forms: a register (0
M-cycles), the byte at HL (one to read, one to write). `P v c r f` says what the result and F are. -/
def UpdateForms (mk : Opnd8 → Instr) (P : Byte → Cpu → Byte → Byte → Prop) : Prop :=
  ∀ s : State,
    (∀ r, ∃ t, exec (mk (.reg r)) s = .next t ∧ P (s.cpu.reg8 r) s.cpu (t.cpu.reg8 r) t.cpu.f ∧
      s.cpu.Wrote8 r (t.cpu.reg8 r) t.cpu.f t.cpu ∧ Elapsed 0 s t) ∧
    ∃ t v f, exec (mk .indHl) s = .next t ∧ P (busRead (transferState s) s.cpu.hl) s.cpu v f ∧
      t.cpu = { s.cpu with f := f } ∧ Stored 1 s t s.cpu.hl v

/-! The I/O register map, register by register (20_memory.md R106). -/

/-- A bus read of `a` returns `r`, and a bus write of `v` there gives the state `w v`. -/
def State.Maps (s : State) (a : Word) (r : Byte) (w : Byte → State) : Prop :=
  busRead s a = r ∧ ∀ v, busWrite s a v = w v

/-- An audio register: a write gives the audio unit `f v` while the master enable is on and is dropped while it is
off; a read is the same either way (63_audio.md R571, R573). -/
def State.MapsAudio (s : State) (a : Word) (r : Byte) (f : Byte → Audio) : Prop :=
  s.Maps a r fun v => if s.audio.on = true then { s with audio := f v } else s

/-- The addresses of 0xFF00 to 0xFF7F that hold no register (20_memory.md R106, R107). -/
def unusedIo (a : Word) : Prop :=
  a = 0xFF03 ∨ (0xFF08 ≤ a.toNat ∧ a.toNat ≤ 0xFF0E) ∨ a = 0xFF15 ∨ a = 0xFF1F ∨
    (0xFF27 ≤ a.toNat ∧ a.toNat ≤ 0xFF2F) ∨ (0xFF4C ≤ a.toNat ∧ a.toNat ≤ 0xFF4F) ∨
    (0xFF51 ≤ a.toNat ∧ a.toNat ≤ 0xFF7F)

/-- P1, serial, divider and timer, IF, the DMA register and the boot latch (20_memory.md R102, R106, 10_state.md
R44, 61_timer_dma_joypad.md R451 to R453, R460, R470, R471, R474). A write of P1 polls at once. -/
structure State.GlueRegs (s : State) : Prop where
  p1_read : (busRead s 0xFF00).toNat = 0xC0 + 16 * s.joypad.sel.toNat + s.joypad.lines.toNat
  p1_write : ∀ v : Byte,
    let t := busWrite s 0xFF00 v
    let input := inputAt s.cfg s.tickCount
    t = { s with joypad := t.joypad, ifl := t.ifl } ∧ t.joypad.sel.toNat = v.toNat / 16 % 4 ∧
    (∀ i, i < 4 → (t.joypad.lines.getLsbD i = false ↔
      (v.getLsbD 4 = false ∧ input.dpad.getLsbD i = false) ∨ (v.getLsbD 5 = false ∧ input.buttons.getLsbD i = false))) ∧
    ((∃ i, i < 4 ∧ s.joypad.lines.getLsbD i = true ∧ t.joypad.lines.getLsbD i = false) → t.ifl = s.ifl ||| 0x10) ∧
    ((∀ i, i < 4 → s.joypad.lines.getLsbD i = true → t.joypad.lines.getLsbD i = true) → t.ifl = s.ifl)
  sb : s.Maps 0xFF01 s.serial.sb fun v => { s with serial := { s.serial with sb := v } }
  sc : s.Maps 0xFF02 (0x7E ||| s.serial.sc) fun v => { s with serial := { s.serial with sc := v &&& 0x81 } }
  div : s.Maps 0xFF04 (BitVec.ofNat 8 (s.timer.div16.toNat / 64)) fun _ => { s with timer := { s.timer with div16 := 0 } }
  tima : s.Maps 0xFF05 s.timer.tima fun v => { s with timer := { s.timer with tima := v } }
  tma : s.Maps 0xFF06 s.timer.tma fun v => { s with timer := { s.timer with tma := v } }
  tac : s.Maps 0xFF07 (BitVec.ofNat 8 (0xF8 + s.timer.tac.toNat)) fun v =>
    { s with timer := { s.timer with tac := BitVec.ofNat 3 v.toNat } }
  iflag : s.Maps 0xFF0F (BitVec.ofNat 8 (0xE0 + s.ifl.toNat)) fun v => { s with ifl := BitVec.ofNat 5 v.toNat }
  dma : s.Maps 0xFF46 s.dma.reg fun v => { s with dma := { s.dma with reg := v, q1 := some v } }
  boot : s.Maps 0xFF50 0xFF fun v => if v = 0 then s else { s with bootDisabled := true }

/-- The video registers (62_video.md R500 to R502). -/
structure State.VideoRegs (s : State) : Prop where
  lcdc : s.Maps 0xFF40 s.video.lcdc fun v => { s with video := { s.video with lcdc := v } }
  stat : s.Maps 0xFF41
    (BitVec.ofNat 8 (0x80 + 8 * s.video.statEn.toNat + (if s.video.ly = s.video.lyc.toNat then 4 else 0) +
      match s.video.mode with
      | .hblank => 0
      | .vblank => 1
      | .oamScan => 2
      | .transfer => 3))
    fun v => { s with video := { s.video with statEn := BitVec.ofNat 4 (v.toNat / 8) } }
  scy : s.Maps 0xFF42 s.video.scy fun v => { s with video := { s.video with scy := v } }
  scx : s.Maps 0xFF43 s.video.scx fun v => { s with video := { s.video with scx := v } }
  ly : s.Maps 0xFF44 (BitVec.ofNat 8 s.video.ly) fun _ => s
  lyc : s.Maps 0xFF45 s.video.lyc fun v => { s with video := { s.video with lyc := v } }
  bgp : s.Maps 0xFF47 s.video.bgp fun v => { s with video := { s.video with bgp := v } }
  obp0 : s.Maps 0xFF48 s.video.obp0 fun v => { s with video := { s.video with obp0 := v } }
  obp1 : s.Maps 0xFF49 s.video.obp1 fun v => { s with video := { s.video with obp1 := v } }
  wy : s.Maps 0xFF4A s.video.wy fun v => { s with video := { s.video with wy := v } }
  wx : s.Maps 0xFF4B s.video.wx fun v => { s with video := { s.video with wx := v } }

/-- A square channel after a write of NRx4: bit 7 triggers it, restarting the period counter, the duty step and the
envelope, and reloading an expired length (63_audio.md R573, R586). -/
def Square.afterControl (v : Byte) (q : Square) : Square :=
  if v.getLsbD 7 = true then
    { q with
      nrx4 := v, active := q.dac, len := if q.len = 0 then 64 else q.len
      timer := q.nrx3.toNat + 256 * (v.toNat % 8), dutyPos := 0
      volume := q.nrx2.toNat / 16, envTimer := q.nrx2.toNat % 8 }
  else { q with nrx4 := v }

/-- The wave channel after a write of NR34: a trigger restarts the period counter and the position, and keeps the
sample buffer (63_audio.md R573, R586, R603). -/
def Wave.afterControl (v : Byte) (w : Wave) : Wave :=
  if v.getLsbD 7 = true then
    { w with
      nr34 := v, active := w.dac, len := if w.len = 0 then 256 else w.len
      timer := w.nr33.toNat + 256 * (v.toNat % 8), pos := 0 }
  else { w with nr34 := v }

/-- The noise channel after a write of NR44: a trigger restarts the shift register, its counter and the envelope
(63_audio.md R573, R586, R607). -/
def Noise.afterControl (v : Byte) (n : Noise) : Noise :=
  if v.getLsbD 7 = true then
    { n with
      nr44 := v, active := n.dac, len := if n.len = 0 then 64 else n.len, count := 0, lfsr := 0x7FFF
      volume := n.nr42.toNat / 16, envTimer := n.nr42.toNat % 8 }
  else { n with nr44 := v }

/-- Channel 1's sweep after a trigger, with `p` the channel's period (63_audio.md R591). -/
def Sweep.afterTrigger (p : Nat) (w : Sweep) : Sweep :=
  let pace := w.nr10.toNat / 16 % 8
  { w with
    shadow := p, timer := if pace = 0 then 8 else pace
    en := decide (pace ≠ 0 ∨ w.nr10.toNat % 8 ≠ 0) }

/-- A trigger's sweep check turns channel 1 off: the shift is not 0, the sweep adds, and the sum passes 2047
(63_audio.md R591, R593). -/
def Sweep.silences (p : Nat) (w : Sweep) : Prop :=
  let shift := w.nr10.toNat % 8
  shift ≠ 0 ∧ w.nr10.getLsbD 3 = false ∧ 2047 < p + p / 2 ^ shift

/-- Channel 1's registers (63_audio.md R571, R573, R585, R586, R591). -/
structure State.SweepRegs (s : State) : Prop where
  nr10 : s.MapsAudio 0xFF10 (s.audio.sweep.nr10 ||| 0x80) fun v =>
    { s.audio with sweep := { s.audio.sweep with nr10 := v } }
  nr11 : s.MapsAudio 0xFF11 (s.audio.ch1.nrx1 ||| 0x3F) fun v =>
    { s.audio with ch1 := { s.audio.ch1 with nrx1 := v, len := 64 - v.toNat % 64 } }
  nr12 : s.MapsAudio 0xFF12 s.audio.ch1.nrx2 fun v =>
    { s.audio with ch1 :=
      { s.audio.ch1 with nrx2 := v, dac := decide (8 ≤ v.toNat), active := s.audio.ch1.active && decide (8 ≤ v.toNat) } }
  nr13 : s.MapsAudio 0xFF13 0xFF fun v => { s.audio with ch1 := { s.audio.ch1 with nrx3 := v } }
  nr14_read : busRead s 0xFF14 = s.audio.ch1.nrx4 ||| 0xBF
  nr14_write : ∀ v : Byte, s.audio.on = true →
    let q := s.audio.ch1.afterControl v
    let p := s.audio.ch1.nrx3.toNat + 256 * (v.toNat % 8)
    (v.getLsbD 7 = false → busWrite s 0xFF14 v = { s with audio := { s.audio with ch1 := q } }) ∧
    (v.getLsbD 7 = true → s.audio.sweep.silences p →
      busWrite s 0xFF14 v = { s with audio :=
        { s.audio with sweep := s.audio.sweep.afterTrigger p, ch1 := { q with active := false } } }) ∧
    (v.getLsbD 7 = true → ¬s.audio.sweep.silences p →
      busWrite s 0xFF14 v = { s with audio := { s.audio with sweep := s.audio.sweep.afterTrigger p, ch1 := q } })

/-- Channel 2's registers (63_audio.md R571, R573, R585, R586). -/
structure State.ToneRegs (s : State) : Prop where
  nr21 : s.MapsAudio 0xFF16 (s.audio.ch2.nrx1 ||| 0x3F) fun v =>
    { s.audio with ch2 := { s.audio.ch2 with nrx1 := v, len := 64 - v.toNat % 64 } }
  nr22 : s.MapsAudio 0xFF17 s.audio.ch2.nrx2 fun v =>
    { s.audio with ch2 :=
      { s.audio.ch2 with nrx2 := v, dac := decide (8 ≤ v.toNat), active := s.audio.ch2.active && decide (8 ≤ v.toNat) } }
  nr23 : s.MapsAudio 0xFF18 0xFF fun v => { s.audio with ch2 := { s.audio.ch2 with nrx3 := v } }
  nr24 : s.MapsAudio 0xFF19 (s.audio.ch2.nrx4 ||| 0xBF) fun v =>
    { s.audio with ch2 := s.audio.ch2.afterControl v }

/-- Channel 3's registers and the wave table (63_audio.md R571, R573, R586, R600, R603). -/
structure State.WaveRegs (s : State) : Prop where
  nr30 : s.MapsAudio 0xFF1A (s.audio.ch3.nr30 ||| 0x7F) fun v =>
    { s.audio with ch3 :=
      { s.audio.ch3 with nr30 := v, dac := v.getLsbD 7, active := s.audio.ch3.active && v.getLsbD 7 } }
  nr31 : s.MapsAudio 0xFF1B 0xFF fun v => { s.audio with ch3 := { s.audio.ch3 with nr31 := v, len := 256 - v.toNat } }
  nr32 : s.MapsAudio 0xFF1C (s.audio.ch3.nr32 ||| 0x9F) fun v => { s.audio with ch3 := { s.audio.ch3 with nr32 := v } }
  nr33 : s.MapsAudio 0xFF1D 0xFF fun v => { s.audio with ch3 := { s.audio.ch3 with nr33 := v } }
  nr34 : s.MapsAudio 0xFF1E (s.audio.ch3.nr34 ||| 0xBF) fun v =>
    { s.audio with ch3 := s.audio.ch3.afterControl v }
  table : ∀ k, k < 16 → s.Maps (BitVec.ofNat 16 (0xFF30 + k)) (s.audio.ch3.table.read k) fun v =>
    { s with audio := { s.audio with ch3 := { s.audio.ch3 with table := s.audio.ch3.table.write k v } } }

/-- Channel 4's registers (63_audio.md R571, R573, R585, R586, R607). -/
structure State.NoiseRegs (s : State) : Prop where
  nr41 : s.MapsAudio 0xFF20 0xFF fun v =>
    { s.audio with ch4 := { s.audio.ch4 with nr41 := v, len := 64 - v.toNat % 64 } }
  nr42 : s.MapsAudio 0xFF21 s.audio.ch4.nr42 fun v =>
    { s.audio with ch4 :=
      { s.audio.ch4 with nr42 := v, dac := decide (8 ≤ v.toNat), active := s.audio.ch4.active && decide (8 ≤ v.toNat) } }
  nr43 : s.MapsAudio 0xFF22 s.audio.ch4.nr43 fun v => { s.audio with ch4 := { s.audio.ch4 with nr43 := v } }
  nr44 : s.MapsAudio 0xFF23 (s.audio.ch4.nr44 ||| 0xBF) fun v =>
    { s.audio with ch4 := s.audio.ch4.afterControl v }

/-- NR50, NR51 and NR52: the master enable, whose fall clears the active flags and whose rise restarts the
sequencer's step, and nothing else (63_audio.md R571 to R573). -/
structure State.MixerRegs (s : State) : Prop where
  nr50 : s.MapsAudio 0xFF24 s.audio.nr50 fun v => { s.audio with nr50 := v }
  nr51 : s.MapsAudio 0xFF25 s.audio.nr51 fun v => { s.audio with nr51 := v }
  nr52 : s.Maps 0xFF26
    (BitVec.ofNat 8 (0x70 + 128 * s.audio.on.toNat + 8 * s.audio.ch4.active.toNat + 4 * s.audio.ch3.active.toNat +
      2 * s.audio.ch2.active.toNat + s.audio.ch1.active.toNat))
    fun v =>
      if s.audio.on = true ∧ v.getLsbD 7 = false then
        { s with audio :=
          { s.audio with
            on := false, ch1 := { s.audio.ch1 with active := false }, ch2 := { s.audio.ch2 with active := false }
            ch3 := { s.audio.ch3 with active := false }, ch4 := { s.audio.ch4 with active := false } } }
      else if s.audio.on = false ∧ v.getLsbD 7 = true then { s with audio := { s.audio with on := true, fsStep := 0 } }
      else s

/-- An upper bound on the dots left in mode 3 (62_video.md R515 to R526): start-up, the fetch that fills an
empty FIFO, pixels to drop, pixels to output, and what a window start can add. -/
def Video.remaining (v : Video) : Nat :=
  v.startup + (if v.fifo = [] then 6 - v.fstep else 0) + v.discard + (160 - v.lx) +
    (if v.inWindow then 0 else 13)

/-- The video unit's invariant (62_video.md R536): counters in range, mode 1 on lines 144 to 153 and nowhere
else but at line 0 dot 0, mode 2 then 3 then 0 on a visible line, mode 3 over long before the line ends. -/
structure Video.Inv (v : Video) : Prop where
  ly_lt : v.ly < 154
  dot_lt : v.dot < 456
  vblank_lines : 144 ≤ v.ly → v.mode = .vblank
  vblank_only : v.mode = .vblank → 144 ≤ v.ly ∨ (v.ly = 0 ∧ v.dot = 0)
  scan_dots : v.mode = .oamScan → 0 < v.dot ∧ v.dot ≤ 80
  scan_mode : v.ly < 144 → 0 < v.dot → v.dot ≤ 80 → v.mode = .oamScan
  transfer_dots : v.mode = .transfer → 80 < v.dot ∧ v.dot + v.remaining ≤ 272
  transfer_pixels : v.mode = .transfer → v.lx < 160
  fill : v.fifo ≠ [] → v.fifo.length + v.fstep = 7
  fstep_le : v.fstep ≤ 6
  lx_le : v.lx ≤ 160
  discard_le : v.discard ≤ 7
  startup_le : v.startup ≤ 6
  objects_le : v.objList.length ≤ 10
  line_length : v.objLine = [] ∨ v.objLine.length = 160

/-- A square channel's counters are in range, and it is active only with its DAC on (63_audio.md R580,
R585). -/
structure Square.Inv (q : Square) : Prop where
  len_le : q.len ≤ 64
  volume_le : q.volume ≤ 15
  envTimer_le : q.envTimer ≤ 7
  timer_lt : q.timer < 2048
  dutyPos_lt : q.dutyPos < 8
  active_dac : q.active = true → q.dac = true

/-- The audio unit's invariant (63_audio.md R572, R580 to R607, R613): counters in range, no channel active
with its DAC off, none active while the unit is off. -/
structure Audio.Inv (a : Audio) : Prop where
  ch1 : a.ch1.Inv
  ch2 : a.ch2.Inv
  len3_le : a.ch3.len ≤ 256
  timer3_lt : a.ch3.timer < 2048
  pos_lt : a.ch3.pos < 32
  sample_lt : a.ch3.sampleBuf < 16
  active3_dac : a.ch3.active = true → a.ch3.dac = true
  len4_le : a.ch4.len ≤ 64
  volume4_le : a.ch4.volume ≤ 15
  envTimer4_le : a.ch4.envTimer ≤ 7
  count_lt : a.ch4.count < 229376
  active4_dac : a.ch4.active = true → a.ch4.dac = true
  shadow_lt : a.sweep.shadow < 2048
  sweepTimer_le : a.sweep.timer ≤ 8
  fsStep_lt : a.fsStep < 8
  off_silent : a.on = false →
    a.ch1.active = false ∧ a.ch2.active = false ∧ a.ch3.active = false ∧ a.ch4.active = false

/-- The machine's invariant: F's low nibble is zero (10_state.md R32), every memory image is in canonical
form within its array, bank_low is never 0 (20_memory.md R143), the DMA counter is in range while active
(10_state.md R48), SC keeps only bits 7 and 0 (61_timer_dma_joypad.md R474), and the video and audio units
keep theirs. -/
structure State.Inv (s : State) : Prop where
  flags_low : s.cpu.f &&& 0x0F = 0
  vram : ArrayOf 0x2000 s.vram
  wram : ArrayOf 0x2000 s.wram
  oam : ArrayOf 160 s.oam
  hram : ArrayOf 127 s.hram
  cartRam : ArrayOf (ramSize s.cfg) s.cartRam
  wave : ArrayOf 16 s.audio.ch3.table
  bankLow : s.cart.bankLow ≠ 0
  dma_idx : s.dma.active = true → s.dma.idx < 160
  serial : s.serial.sc &&& 0x7E = 0
  video : s.video.Inv
  audio : s.audio.Inv

end Sys2Proof.Machine
end

