-- ==== Sys2Proof/Certificates/Slice0/Obligations.lean ====
section
/-! DEFINITION. The statements about the machine that the provers are asked for. In a statement about exec, the
instruction's bytes have been fetched: PC is the address after it, and the M-cycles counted are those after the
fetches (log entry 9). -/

open Sys2Proof Sys2Proof.Machine

/-! ## Encoding and fetching -/

/-- R184: the spec's encoding examples decode to the instructions it names; `JR -2` is a jump to itself (PC being
two bytes further when it executes) and `LDH (0x40),A` writes 0xFF40. -/
def Obligations.DecodeExamples : Prop :=
  decode [0x41] = .ok (.ldBC, []) ∧ (fieldX 0x41 = 1 ∧ fieldY 0x41 = 0 ∧ fieldZ 0x41 = 1) ∧
  decode [0x86] = .ok (.addAIndHl, []) ∧
  decode [0x21, 0x00, 0xC0] = .ok (.ldHlN16 0xC000, []) ∧
  decode [0x18, 0xFE] = .ok (.jrE8 0xFE, []) ∧
  (∀ s : State, ∃ t, exec (.jrE8 0xFE) s = .next t ∧ t.cpu.pc = s.cpu.pc - 2) ∧
  decode [0xCD, 0x50, 0x01] = .ok (.callN16 0x0150, []) ∧
  decode [0xE0, 0x40] = .ok (.ldhIndN8A 0x40, []) ∧
  (∀ s : State, exec (.ldhIndN8A 0x40) s = .next (memWrite s 0xFF40 s.cpu.a)) ∧
  decode [0xCB, 0x7C] = .ok (.bit7H, []) ∧
  decode [0xCB, 0x86] = .ok (.res0IndHl, []) ∧
  decode [0xFF] = .ok (.rst38, []) ∧
  decode [0xF5] = .ok (.pushAf, [])

/-- Decoding what encoding gave returns the instruction, for every instruction and every operand value, whatever
bytes follow (the lone PREFIX_CB only where nothing follows: log entry 11). -/
def Obligations.DecodeEncode : Prop := ∀ i : Instr, Sys2Proof.Laws.RoundTrip.Statement i

/-- Every first byte with any operand bytes decodes to a well-formed instruction whose encoding is exactly the
bytes R171 counts: no bit is dropped and no two byte strings share an instruction. -/
def Obligations.EncodeDecode : Prop :=
  ∀ o b1 b2 : Byte,
    (decodeOp o b1 b2).wellFormed = true ∧ encode (decodeOp o b1 b2) = [o, b1, b2].take (instrLen o)

/-- A step that fetches reads as many bytes at PC as the first one asks for, one per M-cycle, and is exec of
the instruction they decode to, on the state after the fetches (R410, R171, R182). -/
def Obligations.StepRunsFetched : Prop :=
  ∀ s : State, s.fetches →
    ∃ i, decode (fetchBytes (instrLen (fetch8 s.beforeFetch).1) s.beforeFetch).1 = .ok (i, []) ∧
      step s = exec i (fetchBytes (instrLen (fetch8 s.beforeFetch).1) s.beforeFetch).2

/-- Where the bytes at PC, in memory time does not change, are an instruction's encoding, a step is exec of that
instruction with PC after it, IME promoted and one M-cycle passed per byte (R410, R171). The lone PREFIX_CB is
no instruction a step runs: its second byte always follows (R395). -/
def Obligations.StepRunsPlainCode : Prop :=
  ∀ (s : State) (i : Instr), s.fetches → i.wellFormed = true → i ≠ .prefixCb →
    (∀ k, k < (encode i).length → plainAddr (s.cpu.pc + BitVec.ofNat 16 k) ∧
      (encode i)[k]? = some (busRead s (s.cpu.pc + BitVec.ofNat 16 k))) →
    step s = exec i (mapCpu (Cpu.setPc (s.cpu.pc + BitVec.ofNat 16 (encode i).length))
      (ticks (encode i).length s.beforeFetch))

/-! ## Loads (40_loads.md) -/

/-- LD r,r' and LD r,n8 (R200, R201). -/
def Obligations.LdRegister : Prop :=
  ∀ s : State,
    (∀ dst r, ∃ t, exec (.ldRegReg dst r) s = .next t ∧ s.cpu.Wrote8 dst (s.cpu.reg8 r) s.cpu.f t.cpu ∧ Elapsed 0 s t) ∧
    ∀ dst n, ∃ t, exec (.ldRegImm dst n) s = .next t ∧ s.cpu.Wrote8 dst n s.cpu.f t.cpu ∧ Elapsed 0 s t

/-- LD r,(HL): the address is HL before the instruction (R202). -/
def Obligations.LdFromHl : Prop :=
  ∀ (s : State) (dst : Reg8), ∃ t, exec (.ldRegInd dst) s = .next t ∧
    s.cpu.Wrote8 dst (busRead (transferState s) (word s.cpu.h s.cpu.l)) s.cpu.f t.cpu ∧ Elapsed 1 s t

/-- LD A from memory: (BC), (DE), (HL+), (HL-), (n16), and LDH from (n8) and (C) (R205, R207, R208, R213, R215,
R217). -/
def Obligations.LoadAFromMemory : Prop :=
  ∀ s : State,
    let hl := word s.cpu.h s.cpu.l
    (∃ t, exec .ldAIndBc s = .next t ∧
      t.cpu = { s.cpu with a := busRead (transferState s) (word s.cpu.b s.cpu.c) } ∧ Elapsed 1 s t) ∧
    (∃ t, exec .ldAIndDe s = .next t ∧
      t.cpu = { s.cpu with a := busRead (transferState s) (word s.cpu.d s.cpu.e) } ∧ Elapsed 1 s t) ∧
    (∃ t, exec .ldAIndHli s = .next t ∧
      t.cpu = { s.cpu with a := busRead (transferState s) hl, h := hiByte (hl + 1), l := loByte (hl + 1) } ∧
      Elapsed 1 s t) ∧
    (∃ t, exec .ldAIndHld s = .next t ∧
      t.cpu = { s.cpu with a := busRead (transferState s) hl, h := hiByte (hl - 1), l := loByte (hl - 1) } ∧
      Elapsed 1 s t) ∧
    (∀ n, ∃ t, exec (.ldAIndN16 n) s = .next t ∧ t.cpu = { s.cpu with a := busRead (transferState s) n } ∧
      Elapsed 1 s t) ∧
    (∀ n : Byte, ∃ t, exec (.ldhAIndN8 n) s = .next t ∧
      t.cpu = { s.cpu with a := busRead (transferState s) (BitVec.ofNat 16 (0xFF00 + n.toNat)) } ∧ Elapsed 1 s t) ∧
    ∃ t, exec .ldhAIndC s = .next t ∧
      t.cpu = { s.cpu with a := busRead (transferState s) (BitVec.ofNat 16 (0xFF00 + s.cpu.c.toNat)) } ∧
      Elapsed 1 s t

/-- LD (HL),r and LD (HL),n8: no register changes, one byte is stored at HL (R203, R204). -/
def Obligations.StoreAtHl : Prop :=
  ∀ s : State,
    (∀ r, ∃ t, exec (.ldIndReg r) s = .next t ∧ t.cpu = s.cpu ∧
      Stored 0 s t (word s.cpu.h s.cpu.l) (s.cpu.reg8 r)) ∧
    ∀ n, ∃ t, exec (.ldIndHlN8 n) s = .next t ∧ t.cpu = s.cpu ∧ Stored 0 s t (word s.cpu.h s.cpu.l) n

/-- Storing A: at (BC), (DE), (HL+), (HL-), (n16), and LDH at (n8) and (C) (R206, R209, R210, R214, R216,
R218). -/
def Obligations.StoreA : Prop :=
  ∀ s : State,
    let hl := word s.cpu.h s.cpu.l
    (∃ t, exec .ldIndBcA s = .next t ∧ t.cpu = s.cpu ∧ Stored 0 s t (word s.cpu.b s.cpu.c) s.cpu.a) ∧
    (∃ t, exec .ldIndDeA s = .next t ∧ t.cpu = s.cpu ∧ Stored 0 s t (word s.cpu.d s.cpu.e) s.cpu.a) ∧
    (∃ t, exec .ldIndHliA s = .next t ∧ t.cpu = { s.cpu with h := hiByte (hl + 1), l := loByte (hl + 1) } ∧
      Stored 0 s t hl s.cpu.a) ∧
    (∃ t, exec .ldIndHldA s = .next t ∧ t.cpu = { s.cpu with h := hiByte (hl - 1), l := loByte (hl - 1) } ∧
      Stored 0 s t hl s.cpu.a) ∧
    (∀ n, ∃ t, exec (.ldIndN16A n) s = .next t ∧ t.cpu = s.cpu ∧ Stored 0 s t n s.cpu.a) ∧
    (∀ n : Byte, ∃ t, exec (.ldhIndN8A n) s = .next t ∧ t.cpu = s.cpu ∧
      Stored 0 s t (BitVec.ofNat 16 (0xFF00 + n.toNat)) s.cpu.a) ∧
    ∃ t, exec .ldhIndCA s = .next t ∧ t.cpu = s.cpu ∧
      Stored 0 s t (BitVec.ofNat 16 (0xFF00 + s.cpu.c.toNat)) s.cpu.a

/-- LD rr,n16 and LD SP,HL (R211, R219). -/
def Obligations.LoadPair : Prop :=
  ∀ s : State,
    (∀ p n, ∃ t, exec (.ldPairImm p n) s = .next t ∧ s.cpu.WroteRp p n s.cpu.f t.cpu ∧ Elapsed 0 s t) ∧
    ∃ t, exec .ldSpHl s = .next t ∧ t.cpu = { s.cpu with sp := word s.cpu.h s.cpu.l } ∧ Elapsed 1 s t

/-- LD (n16),SP: the low byte at n16, then the high byte at n16 + 1 (R212, R115). -/
def Obligations.StoreSp : Prop :=
  ∀ (s : State) (n : Word), ∃ t, exec (.ldIndN16Sp n) s = .next t ∧ t.cpu = s.cpu ∧
    StoredTwo 0 s t n (s.cpu.sp.extractLsb' 0 8) (n + 1) (s.cpu.sp.extractLsb' 8 8)

/-- PUSH: after one idle M-cycle the high register at SP - 1, the low one at SP - 2; SP is 2 lower (R220 to
R222). -/
def Obligations.Push : Prop :=
  ∀ s : State,
    let c := s.cpu
    (∃ t, exec .pushBc s = .next t ∧ t.cpu = { c with sp := c.sp - 2 } ∧
      StoredTwo 1 s t (c.sp - 1) c.b (c.sp - 2) c.c) ∧
    (∃ t, exec .pushDe s = .next t ∧ t.cpu = { c with sp := c.sp - 2 } ∧
      StoredTwo 1 s t (c.sp - 1) c.d (c.sp - 2) c.e) ∧
    (∃ t, exec .pushHl s = .next t ∧ t.cpu = { c with sp := c.sp - 2 } ∧
      StoredTwo 1 s t (c.sp - 1) c.h (c.sp - 2) c.l) ∧
    ∃ t, exec .pushAf s = .next t ∧ t.cpu = { c with sp := c.sp - 2 } ∧
      StoredTwo 1 s t (c.sp - 1) c.a (c.sp - 2) c.f

/-- POP: the low byte at SP, then, an M-cycle later, the high byte at SP + 1; SP is 2 higher; F keeps only its
high nibble (R222 to R224). -/
def Obligations.PopPair : Prop :=
  ∀ s : State,
    let c := s.cpu
    let lo := busRead (transferState s) c.sp
    let hi := busRead (transferState (tick s)) (c.sp + 1)
    (∃ t, exec .popBc s = .next t ∧ t.cpu = { c with b := hi, c := lo, sp := c.sp + 2 } ∧ Elapsed 2 s t) ∧
    (∃ t, exec .popDe s = .next t ∧ t.cpu = { c with d := hi, e := lo, sp := c.sp + 2 } ∧ Elapsed 2 s t) ∧
    (∃ t, exec .popHl s = .next t ∧ t.cpu = { c with h := hi, l := lo, sp := c.sp + 2 } ∧ Elapsed 2 s t) ∧
    ∃ t, exec .popAf s = .next t ∧ t.cpu = { c with a := hi, f := lo &&& 0xF0, sp := c.sp + 2 } ∧ Elapsed 2 s t

/-- A pair pushed to work or high RAM and popped again is the same pair, and every register is as before (R220
to R224, R115); F's low nibble is zero, as R32 says it always is. -/
def Obligations.PushThenPop : Prop :=
  ∀ (s : State) (p : Rp2), ramAddr (s.cpu.sp - 1) → ramAddr (s.cpu.sp - 2) → s.cpu.f &&& 0x0F = 0 →
    ∃ t u, exec (.push p) s = .next t ∧ exec (.pop p) t = .next u ∧ u.cpu = s.cpu

/-! ## 8-bit arithmetic and logic (41_alu8.md) -/

/-- ADD and ADC in their three operand forms, the result and the flags as exact sums (R250 to R256). -/
def Obligations.AddAdc : Prop :=
  AluForms .add (fun v c d => c.Added v 0 d) ∧ AluForms .adc (fun v c d => c.Added v c.carry d)

/-- SUB, SBC and CP in their three operand forms; CP writes F only (R257 to R262, R272 to R274). -/
def Obligations.SubSbcCp : Prop :=
  AluForms .sub (fun v c d => c.Difference v 0 d.a d.f ∧ d = { c with a := d.a, f := d.f }) ∧
  AluForms .sbc (fun v c d => c.Difference v c.carry d.a d.f ∧ d = { c with a := d.a, f := d.f }) ∧
  AluForms .cp (fun v c d => (∃ r, c.Difference v 0 r d.f) ∧ d = { c with f := d.f })

/-- AND, XOR and OR in their three operand forms, bit by bit (R263 to R271). -/
def Obligations.Logic : Prop :=
  AluForms .and (fun v c d => (∀ i, d.a.getLsbD i = (c.a.getLsbD i && v.getLsbD i)) ∧
    FlagsAre d.f (d.a = 0) False True False ∧ d = { c with a := d.a, f := d.f }) ∧
  AluForms .xor (fun v c d => (∀ i, d.a.getLsbD i = (c.a.getLsbD i != v.getLsbD i)) ∧
    FlagsAre d.f (d.a = 0) False False False ∧ d = { c with a := d.a, f := d.f }) ∧
  AluForms .or (fun v c d => (∀ i, d.a.getLsbD i = (c.a.getLsbD i || v.getLsbD i)) ∧
    FlagsAre d.f (d.a = 0) False False False ∧ d = { c with a := d.a, f := d.f })

/-- R283, the ALU laws: (a) ADD then SUB returns A, with the flags of subtracting from the sum; (b) CP writes
SUB's flags and leaves A; (c) results modulo 256 and exact carries; (d) F's low nibble is zero; (e) the logic
operations' H, C and N. -/
def Obligations.AluLaws : Prop :=
  (∀ a b : Byte, (aluSub (aluAdd a b false).1 b false).1 = a ∧
    (aluSub (aluAdd a b false).1 b false).2 = (aluSub (BitVec.ofNat 8 (a.toNat + b.toNat)) b false).2) ∧
  (∀ (c : Cpu) (v : Byte), (c.aluA .cp v).f = (c.aluA .sub v).f ∧ (c.aluA .cp v).a = c.a) ∧
  (∀ (a b : Byte) (k : Bool),
    (aluAdd a b k).1.toNat = (a.toNat + b.toNat + k.toNat) % 256 ∧
    ((aluAdd a b k).2.getLsbD 4 = true ↔ 0xFF < a.toNat + b.toNat + k.toNat) ∧
    (((aluSub a b k).1.toNat : Int) = ((a.toNat : Int) - b.toNat - k.toNat) % 256) ∧
    ((aluSub a b k).2.getLsbD 4 = true ↔ a.toNat < b.toNat + k.toNat)) ∧
  (∀ (op : AluOp) (a b : Byte) (k : Bool), (aluResult op a b k).2.extractLsb' 0 4 = 0) ∧
  ∀ (a b : Byte) (k : Bool),
    (aluResult .and a b k).2.getLsbD 5 = true ∧ (aluResult .xor a b k).2.getLsbD 5 = false ∧
    (aluResult .or a b k).2.getLsbD 5 = false ∧
    ∀ op ∈ [AluOp.and, .xor, .or],
      (aluResult op a b k).2.getLsbD 4 = false ∧ (aluResult op a b k).2.getLsbD 6 = false

/-- INC and DEC of a register and of the byte at HL: C is kept (R275 to R278). -/
def Obligations.IncDec8 : Prop :=
  UpdateForms .inc8 (fun v c r f => r.toNat = (v.toNat + 1) % 256 ∧
    FlagsAre f (r = 0) False (v.toNat % 16 = 15) (c.f.getLsbD 4 = true)) ∧
  UpdateForms .dec8 (fun v c r f => (r.toNat + 1) % 256 = v.toNat ∧
    FlagsAre f (r = 0) True (v.toNat % 16 = 0) (c.f.getLsbD 4 = true))

/-- DAA in every combination of A, N, H and C (R279). -/
def Obligations.DecimalAdjust : Prop :=
  ∀ s : State, ∃ t, exec .daa s = .next t ∧ t.cpu = { s.cpu with a := t.cpu.a, f := t.cpu.f } ∧ Elapsed 0 s t ∧
    let a := s.cpu.a.toNat
    let n := s.cpu.f.getLsbD 6
    let h := s.cpu.f.getLsbD 5
    let c := s.cpu.f.getLsbD 4
    (n = false →
      let high : Prop := c = true ∨ 0x99 < a
      (high → ∀ a1, a1 = (a + 0x60) % 256 →
        t.cpu.a.toNat = (if h = true ∨ 9 < a1 % 16 then a1 + 6 else a1) % 256) ∧
      (¬high → t.cpu.a.toNat = (if h = true ∨ 9 < a % 16 then a + 6 else a) % 256) ∧
      FlagsAre t.cpu.f (t.cpu.a = 0) False False high) ∧
    (n = true →
      (t.cpu.a.toNat + (if c = true then 0x60 else 0) + (if h = true then 6 else 0)) % 256 = a ∧
      FlagsAre t.cpu.f (t.cpu.a = 0) True False (c = true))

/-- What DAA is for: after ADD or SUB of two-digit BCD numbers it gives the BCD sum or difference modulo 100 and
the decimal carry or borrow (R279's "decimal-adjust A after a BCD addition or subtraction"). -/
def Obligations.DaaDecimal : Prop :=
  let bcd (n : Nat) : Byte := BitVec.ofNat 8 (16 * (n / 10) + n % 10)
  ∀ (c : Cpu) (x y : Nat), x < 100 → y < 100 → c.a = bcd x →
    ((c.aluA .add (bcd y)).daa.a = bcd ((x + y) % 100) ∧
      ((c.aluA .add (bcd y)).daa.f.getLsbD 4 = true ↔ 100 ≤ x + y)) ∧
    ((c.aluA .sub (bcd y)).daa.a = bcd ((x + 100 - y) % 100) ∧
      ((c.aluA .sub (bcd y)).daa.f.getLsbD 4 = true ↔ x < y))

/-- CPL, SCF, CCF (R280 to R282). -/
def Obligations.ComplementAndCarry : Prop :=
  ∀ s : State,
    let z := s.cpu.f.getLsbD 7 = true
    let c := s.cpu.f.getLsbD 4 = true
    (∃ t, exec .cpl s = .next t ∧ (∀ i, i < 8 → t.cpu.a.getLsbD i = !s.cpu.a.getLsbD i) ∧
      FlagsAre t.cpu.f z True True c ∧ t.cpu = { s.cpu with a := t.cpu.a, f := t.cpu.f } ∧ Elapsed 0 s t) ∧
    (∃ t, exec .scf s = .next t ∧ FlagsAre t.cpu.f z False False True ∧ t.cpu = { s.cpu with f := t.cpu.f } ∧
      Elapsed 0 s t) ∧
    ∃ t, exec .ccf s = .next t ∧ FlagsAre t.cpu.f z False False (¬c) ∧ t.cpu = { s.cpu with f := t.cpu.f } ∧
      Elapsed 0 s t

/-! ## 16-bit arithmetic (42_alu16.md) -/

/-- INC rr and DEC rr: no flag changes (R300, R301). -/
def Obligations.IncDecPair : Prop :=
  ∀ (s : State) (p : Rp),
    (∃ t, exec (.incPair p) s = .next t ∧ s.cpu.WroteRp p (s.cpu.rp p + 1) s.cpu.f t.cpu ∧ Elapsed 1 s t) ∧
    ∃ t, exec (.decPair p) s = .next t ∧ s.cpu.WroteRp p (s.cpu.rp p - 1) s.cpu.f t.cpu ∧ Elapsed 1 s t

/-- ADD HL,rr: Z is kept, H is the carry out of bit 11, C out of bit 15 (R302). -/
def Obligations.AddHl : Prop :=
  ∀ (s : State) (p : Rp),
    let a := (word s.cpu.h s.cpu.l).toNat
    let b := (s.cpu.rp p).toNat
    ∃ t, exec (.addHl p) s = .next t ∧ Elapsed 1 s t ∧
      s.cpu.WroteRp .hl (BitVec.ofNat 16 (a + b)) t.cpu.f t.cpu ∧
      FlagsAre t.cpu.f (s.cpu.f.getLsbD 7 = true) False (4096 ≤ a % 4096 + b % 4096) (65536 ≤ a + b)

/-- ADD SP,e8 and LD HL,SP+e8: the displacement is signed, the flags are the carries of the low bytes, unsigned
(R303, R304). -/
def Obligations.AddSp : Prop :=
  ∀ (s : State) (e : Byte),
    let sum := s.cpu.sp + e.signExtend 16
    let lo := s.cpu.sp.toNat % 256
    (∃ t, exec (.addSpE8 e) s = .next t ∧ Elapsed 2 s t ∧ s.cpu.WroteRp .sp sum t.cpu.f t.cpu ∧
      FlagsAre t.cpu.f False False (16 ≤ lo % 16 + e.toNat % 16) (256 ≤ lo + e.toNat)) ∧
    ∃ t, exec (.ldHlSpE8 e) s = .next t ∧ Elapsed 1 s t ∧ s.cpu.WroteRp .hl sum t.cpu.f t.cpu ∧
      FlagsAre t.cpu.f False False (16 ≤ lo % 16 + e.toNat % 16) (256 ≤ lo + e.toNat)

/-! ## Rotates, shifts, bits (43_rotate_shift_bit.md) -/

/-- RLCA, RRCA, RLA, RRA: Z is always 0 (R320 to R323). -/
def Obligations.RotateA : Prop :=
  ∀ (s : State) (i : Instr) (op : ShiftOp),
    (i, op) ∈ [(Instr.rlca, ShiftOp.rlc), (.rrca, .rrc), (.rla, .rl), (.rra, .rr)] →
    ∃ t, exec i s = .next t ∧ t.cpu = { s.cpu with a := t.cpu.a, f := t.cpu.f } ∧ Elapsed 0 s t ∧
      (∀ k, k < 8 → t.cpu.a.getLsbD k = shiftBit op s.cpu.a (s.cpu.f.getLsbD 4) k) ∧
      FlagsAre t.cpu.f False False False (shiftOut op s.cpu.a = true)

/-- The eight CB shifts of a register and of the byte at HL (R324 to R340). -/
def Obligations.CbShift : Prop :=
  ∀ op : ShiftOp, UpdateForms (.shift op) (fun v c r f =>
    (∀ k, k < 8 → r.getLsbD k = shiftBit op v (c.f.getLsbD 4) k) ∧
      FlagsAre f (r = 0) False False (shiftOut op v = true))

/-- BIT b: Z is the complement of the bit, C is kept, nothing is written but F (R341, R342). -/
def Obligations.TestBit : Prop :=
  ∀ (s : State) (b : Fin 8),
    let kept := s.cpu.f.getLsbD 4 = true
    (∀ r, ∃ t, exec (.bit b (.reg r)) s = .next t ∧ t.cpu = { s.cpu with f := t.cpu.f } ∧ Elapsed 0 s t ∧
      FlagsAre t.cpu.f ((s.cpu.reg8 r).getLsbD b = false) False True kept) ∧
    ∃ t, exec (.bit b .indHl) s = .next t ∧ t.cpu = { s.cpu with f := t.cpu.f } ∧ Elapsed 1 s t ∧
      FlagsAre t.cpu.f ((busRead (transferState s) (word s.cpu.h s.cpu.l)).getLsbD b = false) False True kept

/-- RES b and SET b of a register and of the byte at HL: one bit changes, no flag (R343 to R346). -/
def Obligations.ResSet : Prop :=
  ∀ b : Fin 8,
    UpdateForms (.res b) (fun v c r f => f = c.f ∧
      ∀ k, k < 8 → r.getLsbD k = if k = b.val then false else v.getLsbD k) ∧
    UpdateForms (.set b) (fun v c r f => f = c.f ∧
      ∀ k, k < 8 → r.getLsbD k = if k = b.val then true else v.getLsbD k)

/-! ## Control transfer (44_control.md) -/

/-- JP, JP cc, JP HL, JR, JR cc: taken, PC is the target; not taken, nothing changes and no M-cycle is spent
(R360 to R365, R371). -/
def Obligations.Jump : Prop :=
  ∀ s : State,
    let rel (e : Byte) := s.cpu.pc + e.signExtend 16
    (∀ n, ∃ t, exec (.jpN16 n) s = .next t ∧ t.cpu = { s.cpu with pc := n } ∧ Elapsed 1 s t) ∧
    (∀ cc n, ∃ t, exec (.jpCond cc n) s = .next t ∧
      (cc.Holds s.cpu.f → t.cpu = { s.cpu with pc := n } ∧ Elapsed 1 s t) ∧ (¬cc.Holds s.cpu.f → t = s)) ∧
    (∃ t, exec .jpHl s = .next t ∧ t.cpu = { s.cpu with pc := word s.cpu.h s.cpu.l } ∧ Elapsed 0 s t) ∧
    (∀ e, ∃ t, exec (.jrE8 e) s = .next t ∧ t.cpu = { s.cpu with pc := rel e } ∧ Elapsed 1 s t) ∧
    ∀ cc e, ∃ t, exec (.jrCond cc e) s = .next t ∧
      (cc.Holds s.cpu.f → t.cpu = { s.cpu with pc := rel e } ∧ Elapsed 1 s t) ∧ (¬cc.Holds s.cpu.f → t = s)

/-- CALL, CALL cc, RST: after one idle M-cycle the return address is pushed, high byte first; PC is the target
(R366, R367, R370). -/
def Obligations.Call : Prop :=
  ∀ s : State,
    let called (t : State) (n : Word) : Prop :=
      t.cpu = { s.cpu with sp := s.cpu.sp - 2, pc := n } ∧
        StoredTwo 1 s t (s.cpu.sp - 1) (s.cpu.pc.extractLsb' 8 8) (s.cpu.sp - 2) (s.cpu.pc.extractLsb' 0 8)
    (∀ n, ∃ t, exec (.callN16 n) s = .next t ∧ called t n) ∧
    (∀ cc n, ∃ t, exec (.callCond cc n) s = .next t ∧ (cc.Holds s.cpu.f → called t n) ∧
      (¬cc.Holds s.cpu.f → t = s)) ∧
    ∀ y : Fin 8, ∃ t, exec (.rst y) s = .next t ∧ called t (BitVec.ofNat 16 (8 * y))

/-- RET, RET cc, RETI: PC is popped, low byte first; RETI sets IME at once and keeps ime_pending (R368, R369,
R373). -/
def Obligations.Return : Prop :=
  ∀ s : State,
    let popped (u : State) : Word :=
      (busRead (transferState (tick u)) (s.cpu.sp + 1)) ++ (busRead (transferState u) s.cpu.sp)
    (∃ t, exec .ret s = .next t ∧ t.cpu = { s.cpu with pc := popped s, sp := s.cpu.sp + 2 } ∧ Elapsed 3 s t) ∧
    (∀ cc, ∃ t, exec (.retCond cc) s = .next t ∧
      (cc.Holds s.cpu.f →
        t.cpu = { s.cpu with pc := popped (tick s), sp := s.cpu.sp + 2 } ∧ Elapsed 4 s t) ∧
      (¬cc.Holds s.cpu.f → t.cpu = s.cpu ∧ Elapsed 1 s t)) ∧
    ∃ t, exec .reti s = .next t ∧
      t.cpu = { s.cpu with pc := popped s, sp := s.cpu.sp + 2, ime := true } ∧ Elapsed 3 s t

/-! ## System instructions, the step, interrupts (45_system.md, 60_exceptions.md) -/

/-- NOP, STOP, HALT, DI, EI (R390 to R394). -/
def Obligations.SystemInstructions : Prop :=
  ∀ s : State,
    exec .nop s = .next s ∧
    exec .stop s = .next s ∧
    exec .halt s = .next { s with cpu := { s.cpu with halted := true } } ∧
    exec .di s = .next { s with cpu := { s.cpu with ime := false, imePending := false } } ∧
    exec .ei s = .next { s with cpu := { s.cpu with imePending := true } }

/-- R425, the lock: an undefined opcode sets `locked` and changes nothing else; while locked every step is one
idle M-cycle, for ever: no fetch, no dispatch, no wake-up, the devices running on, PC unchanging. A power-on
reset leaves it. -/
def Obligations.Lock : Prop :=
  (∀ (s : State) (op : Byte), (Instr.undefined op).wellFormed = true →
    exec (.undefined op) s = .next { s with cpu := { s.cpu with locked := true } }) ∧
  ∀ (s : State) (n : Nat), s.cpu.locked = true →
    (Host.Core.run Sys2Proof.core n s = .next (ticks n s) ∧ (ticks n s).cpu = s.cpu ∧
      (ticks n s).tickCount = s.tickCount + n) ∧
    ∀ p : PowerOn, (s.resetAgain p).cpu.locked = false

/-- The CB prefix fetches a second byte and executes the CB instruction it encodes: x selects the group, y the
operation or bit, z the operand (R395, R177, R173). -/
def Obligations.CbPrefix : Prop :=
  ∀ s : State, ∃ t, exec .prefixCb s = .next t ∧
    let b := (fetch8 s).1
    let o := r8OfCode (b.toNat % 8)
    let y := b.toNat / 8 % 8
    exec
      (if b.toNat < 0x40 then .shift (shiftOfCode y) o
        else if b.toNat < 0x80 then .bit (Fin.ofNat 8 y) o
        else if b.toNat < 0xC0 then .res (Fin.ofNat 8 y) o
        else .set (Fin.ofNat 8 y) o)
      (fetch8 s).2 = .next t

/-- HALT's state: with no request each step is one idle M-cycle and PC stays; with one the step wakes at no
cost, dispatching if IME is set, else fetching at PC (R421, R422). -/
def Obligations.Halted : Prop :=
  ∀ s : State, s.cpu.locked = false → s.cpu.halted = true →
    (∀ n, (∀ k, k < n → pending (ticks k s) = 0) →
      Host.Core.run Sys2Proof.core n s = .next (ticks n s) ∧ (ticks n s).cpu = s.cpu) ∧
    (pending s ≠ 0 → step s = step { s with cpu := { s.cpu with halted := false } } ∧
      (s.cpu.ime = false → s.fetches ∧ s.beforeFetch.cpu.pc = s.cpu.pc ∧ s.beforeFetch.ifl = s.ifl))

/-- Taking an interrupt: the lowest pending source is served; its IF bit is cleared, interrupts are disabled,
PC is pushed after two idle M-cycles, one more passes, and PC is the vector 0x40 + 8k (R413 to R416). -/
def Obligations.Dispatch : Prop :=
  ∀ s : State, s.cpu.locked = false → s.cpu.ime = true → pending s ≠ 0 →
    ∃ (t : State) (k : Nat), step s = .next t ∧
      k < 5 ∧ (s.ifl.getLsbD k && s.ie.getLsbD k) = true ∧ (∀ j, j < k → (s.ifl.getLsbD j && s.ie.getLsbD j) = false) ∧
      t.cpu = { s.cpu with
        pc := BitVec.ofNat 16 (0x40 + 8 * k), sp := s.cpu.sp - 2, ime := false, imePending := false, halted := false } ∧
      (let u : State := { s with ifl := s.ifl &&& ~~~(1#5 <<< k) }
       let a1 := s.cpu.sp - 1
       let a2 := s.cpu.sp - 2
       let w := memWrite (ticks 2 u) a1 (s.cpu.pc.extractLsb' 8 8)
       t = { tick (memWrite w a2 (s.cpu.pc.extractLsb' 0 8)) with cpu := t.cpu } ∧
       t.settings = (busWrite (busWrite s a1 (s.cpu.pc.extractLsb' 8 8)) a2 (s.cpu.pc.extractLsb' 0 8)).settings ∧
       (regionOf a1 ≠ .io .iflag → regionOf a2 ≠ .io .iflag → u.ifl &&& t.ifl = u.ifl) ∧
       ∀ l, l.plain ∨ (s.dma.quiet ∧ regionOf a1 ≠ .io .dma ∧ regionOf a2 ≠ .io .dma) →
        t.byteAt l =
          if storeLoc (transferState w) a2 = some l then s.cpu.pc.extractLsb' 0 8
          else if storeLoc (transferState (ticks 2 u)) a1 = some l then s.cpu.pc.extractLsb' 8 8
          else s.byteAt l)

/-- EI's deferral: with a request pending, `EI` and then `NOP` both execute, IME is set only in the second step,
and the third takes the interrupt; after `EI; DI` interrupts stay disabled (R394, R412). -/
def Obligations.EiDeferral : Prop :=
  ∀ s : State, s.cpu.locked = false → s.cpu.halted = false → s.cpu.ime = false → s.cpu.imePending = false →
    pending s ≠ 0 → plainAddr s.cpu.pc → plainAddr (s.cpu.pc + 1) → busRead s s.cpu.pc = 0xFB →
    (busRead s (s.cpu.pc + 1) = 0x00 → ∃ t u v, step s = .next t ∧ step t = .next u ∧ step u = .next v ∧
      t.cpu = { s.cpu with pc := s.cpu.pc + 1, imePending := true } ∧
      u.cpu = { s.cpu with pc := s.cpu.pc + 2, ime := true } ∧
      v.cpu.ime = false ∧ v.cpu.sp = s.cpu.sp - 2 ∧ v.cpu.pc = BitVec.ofNat 16 (0x40 + 8 * pendingSource (pending u))) ∧
    (busRead s (s.cpu.pc + 1) = 0xF3 → ∃ t u, step s = .next t ∧ step t = .next u ∧
      u.cpu = { s.cpu with pc := s.cpu.pc + 2 })

/-- Every instruction completes, and takes the M-cycles the opcode table gives it, fetches included (the
lone PREFIX_CB, whose time is that of the CB instruction after it, is Obligations.CbPrefix's). -/
def Obligations.MCycles : Prop :=
  ∀ (i : Instr) (s : State), i.wellFormed = true → i ≠ .prefixCb →
    ∃ t, exec i s = .next t ∧
      t.tickCount + (encode i).length =
        s.tickCount + mcycles ((encode i).getD 0 0) ((encode i).getD 1 0) s.cpu.f

/-! ## Bus and cartridge (20_memory.md) -/

/-- The bus decode: what a read of each region of the address map returns and what a write there does, for every
range of memory, every unused address and every I/O register (R101 to R104, R106, R107, R44, R45, R571 to R573). The
mirror, blocked OAM and the cartridge's own addresses have statements of their own. -/
def Obligations.ReadDecode : Prop :=
  ∀ (s : State) (a : Word),
    ((a.toNat ≤ 0xFF → s.bootDisabled = false → busRead s a = s.cfg.bootRom.read a.toNat) ∧
      (a.toNat ≤ 0x7FFF → (0xFF < a.toNat ∨ s.bootDisabled = true) → busRead s a = readRom s.cfg s.cart a) ∧
      (a.toNat ≤ 0x7FFF → ∀ v, busWrite s a v = { s with cart := writeRom s.cfg a v s.cart })) ∧
    (0x8000 ≤ a.toNat → a.toNat ≤ 0x9FFF → s.Maps a (s.vram.read (a.toNat - 0x8000)) fun v =>
      { s with vram := s.vram.write (a.toNat - 0x8000) v }) ∧
    (0xA000 ≤ a.toNat → a.toNat ≤ 0xBFFF → s.Maps a (readRam s.cfg s.cart s.cartRam a) fun v =>
      { s with cartRam := writeRam s.cfg s.cart a v s.cartRam }) ∧
    (0xC000 ≤ a.toNat → a.toNat ≤ 0xDFFF → s.Maps a (s.wram.read (a.toNat - 0xC000)) fun v =>
      { s with wram := s.wram.write (a.toNat - 0xC000) v }) ∧
    (0xFE00 ≤ a.toNat → a.toNat ≤ 0xFE9F → s.dma.active = false → s.Maps a (s.oam.read (a.toNat - 0xFE00)) fun v =>
      { s with oam := s.oam.write (a.toNat - 0xFE00) v }) ∧
    (0xFEA0 ≤ a.toNat → a.toNat ≤ 0xFEFF → s.Maps a 0x00 fun _ => s) ∧
    (0xFF80 ≤ a.toNat → a.toNat ≤ 0xFFFE → s.Maps a (s.hram.read (a.toNat - 0xFF80)) fun v =>
      { s with hram := s.hram.write (a.toNat - 0xFF80) v }) ∧
    (a = 0xFFFF → s.Maps a s.ie fun v => { s with ie := v }) ∧
    (unusedIo a → s.Maps a 0xFF fun _ => s) ∧
    s.GlueRegs ∧ s.VideoRegs ∧ s.SweepRegs ∧ s.ToneRegs ∧ s.WaveRegs ∧ s.NoiseRegs ∧ s.MixerRegs

/-- R108, the work RAM mirror: an access to 0xE000-0xFDFF is the access 0x2000 lower, and the WRAM offsets
from 0x1E00 have no mirror. -/
def Obligations.EchoRam : Prop :=
  (∀ (s : State) (a : Word), 0xE000 ≤ a.toNat → a.toNat ≤ 0xFDFF →
    busRead s a = s.wram.read (a.toNat - 0xE000) ∧ busRead s a = busRead s (a - 0x2000) ∧
    ∀ v, busWrite s a v = { s with wram := s.wram.write (a.toNat - 0xE000) v } ∧
      busWrite s a v = busWrite s (a - 0x2000) v) ∧
  ∀ (a : Word) (k : Nat), regionOf a = .wram k → 0x1E00 ≤ k → a.toNat = 0xC000 + k

/-- A byte written to VRAM, work RAM or high RAM reads back, and every other address reads as before (R104,
R120). -/
def Obligations.RamReadBack : Prop :=
  ∀ (s : State) (a b : Word) (v : Byte), ramAddr a ∨ (0x8000 ≤ a.toNat ∧ a.toNat ≤ 0x9FFF) →
    busRead (busWrite s a v) b =
      if regionOf b = regionOf a then v else busRead s b

/-- The boot latch is never cleared and no ROM image or parameter changes, whatever a step does (R102, R104,
R54). -/
def Obligations.LatchAndImagesKept : Prop :=
  ∀ s t : State, step s = .next t → t.cfg = s.cfg ∧ (s.bootDisabled = true → t.bootDisabled = true)

/-- OAM is blocked while a transfer is active: the CPU reads 0xFF and its writes are dropped; every other
address is as without a transfer (R462). -/
def Obligations.OamBlocked : Prop :=
  ∀ (s : State) (a : Word), s.dma.active = true →
    (0xFE00 ≤ a.toNat → a.toNat ≤ 0xFE9F → busRead s a = 0xFF ∧ ∀ v, busWrite s a v = s) ∧
    (a.toNat < 0xFE00 ∨ 0xFE9F < a.toNat →
      busRead s a = busRead { s with dma := { s.dma with active := false } } a)

/-- R143 to R145, Variant A: its four registers, the ROM address of each window, and the gated RAM. -/
def Obligations.VariantA : Prop :=
  ∀ (s : State) (a : Word) (v : Byte), s.cfg.mapper = .variantA →
    (a.toNat ≤ 0x1FFF → busWrite s a v = { s with cart := { s.cart with ramEnable := decide (v.toNat % 16 = 10) } }) ∧
    (0x2000 ≤ a.toNat → a.toNat ≤ 0x3FFF →
      busWrite s a v = { s with cart := { s.cart with
        bankLow := if v.toNat % 32 = 0 then 1 else BitVec.ofNat 5 v.toNat } }) ∧
    (0x4000 ≤ a.toNat → a.toNat ≤ 0x5FFF →
      busWrite s a v = { s with cart := { s.cart with bankHigh := BitVec.ofNat 2 v.toNat } }) ∧
    (0x6000 ≤ a.toNat → a.toNat ≤ 0x7FFF →
      busWrite s a v = { s with cart := { s.cart with mode := decide (v.toNat % 2 = 1) } }) ∧
    (a.toNat ≤ 0x3FFF → (0xFF < a.toNat ∨ s.bootDisabled = true) →
      busRead s a = s.cfg.cartRom.read
        ((a.toNat + if s.cart.mode = true then 0x80000 * s.cart.bankHigh.toNat else 0) % romSize s.cfg)) ∧
    (0x4000 ≤ a.toNat → a.toNat ≤ 0x7FFF →
      busRead s a = s.cfg.cartRom.read
        ((a.toNat - 0x4000 + 0x4000 * s.cart.bankLow.toNat + 0x80000 * s.cart.bankHigh.toNat) % romSize s.cfg)) ∧
    (0xA000 ≤ a.toNat → a.toNat ≤ 0xBFFF →
      let ea := (a.toNat - 0xA000 + if s.cart.mode = true then 0x2000 * s.cart.bankHigh.toNat else 0) % ramSize s.cfg
      if s.cart.ramEnable = true ∧ ramSize s.cfg ≠ 0 then
        busRead s a = s.cartRam.read ea ∧ busWrite s a v = { s with cartRam := s.cartRam.write ea v }
      else busRead s a = 0xFF ∧ busWrite s a v = s)

/-- R146 to R148, Variant B: its registers, with bank 0 selectable, the ROM address of each window, and the gated
RAM. -/
def Obligations.VariantB : Prop :=
  ∀ (s : State) (a : Word) (v : Byte), s.cfg.mapper = .variantB →
    (a.toNat ≤ 0x1FFF → busWrite s a v = { s with cart := { s.cart with ramEnable := decide (v = 0x0A) } }) ∧
    (0x2000 ≤ a.toNat → a.toNat ≤ 0x2FFF →
      busWrite s a v = { s with cart := { s.cart with
        romBank := BitVec.ofNat 9 (256 * (s.cart.romBank.toNat / 256) + v.toNat) } }) ∧
    (0x3000 ≤ a.toNat → a.toNat ≤ 0x3FFF →
      busWrite s a v = { s with cart := { s.cart with
        romBank := BitVec.ofNat 9 (256 * (v.toNat % 2) + s.cart.romBank.toNat % 256) } }) ∧
    (0x4000 ≤ a.toNat → a.toNat ≤ 0x5FFF →
      busWrite s a v = { s with cart := { s.cart with ramBank := BitVec.ofNat 4 v.toNat } }) ∧
    (0x6000 ≤ a.toNat → a.toNat ≤ 0x7FFF → busWrite s a v = s) ∧
    (a.toNat ≤ 0x3FFF → (0xFF < a.toNat ∨ s.bootDisabled = true) →
      busRead s a = s.cfg.cartRom.read (a.toNat % romSize s.cfg)) ∧
    (0x4000 ≤ a.toNat → a.toNat ≤ 0x7FFF →
      busRead s a = s.cfg.cartRom.read ((a.toNat - 0x4000 + 0x4000 * s.cart.romBank.toNat) % romSize s.cfg)) ∧
    (0xA000 ≤ a.toNat → a.toNat ≤ 0xBFFF →
      let ea := (a.toNat - 0xA000 + 0x2000 * s.cart.ramBank.toNat) % ramSize s.cfg
      if s.cart.ramEnable = true ∧ ramSize s.cfg ≠ 0 then
        busRead s a = s.cartRam.read ea ∧ busWrite s a v = { s with cartRam := s.cartRam.write ea v }
      else busRead s a = 0xFF ∧ busWrite s a v = s)

/-- R142, no mapper: ROM addresses are masked to 15 bits, writes there do nothing, and cartridge RAM reads 0xFF
and takes no write. -/
def Obligations.NoMapper : Prop :=
  ∀ (s : State) (a : Word) (v : Byte), s.cfg.mapper = .noMapper →
    (a.toNat ≤ 0x7FFF → busWrite s a v = s ∧ ((0xFF < a.toNat ∨ s.bootDisabled = true) →
      busRead s a = s.cfg.cartRom.read ((a.toNat % 0x8000) % romSize s.cfg))) ∧
    (0xA000 ≤ a.toNat → a.toNat ≤ 0xBFFF → busRead s a = 0xFF ∧ busWrite s a v = s)

/-! ## Timer, DMA, joypad (61_timer_dma_joypad.md) -/

/-- One M-cycle of the timer: the divider counts, a falling edge of the selected tap under the enable bit clocks
TIMA, and an overflow reloads TMA and requests the interrupt in the same tick (R451, R454, R455). -/
def Obligations.TimerTick : Prop :=
  ∀ s : State,
    let t := tick s
    let d := s.timer.div16 + 1
    let tap := [7, 1, 3, 5].getD (s.timer.tac.toNat % 4) 0
    let sig := d.getLsbD tap && s.timer.tac.getLsbD 2
    let falls := s.timer.prev = true ∧ sig = false
    t.timer.div16 = d ∧ t.timer.prev = sig ∧ t.timer.tma = s.timer.tma ∧ t.timer.tac = s.timer.tac ∧
    (¬falls → t.timer.tima = s.timer.tima) ∧
    (falls → s.timer.tima ≠ 0xFF → t.timer.tima = s.timer.tima + 1) ∧
    (falls → s.timer.tima = 0xFF → t.timer.tima = s.timer.tma ∧ t.ifl.getLsbD 2 = true) ∧
    (¬(falls ∧ s.timer.tima = 0xFF) → t.ifl.getLsbD 2 = s.ifl.getLsbD 2)

/-- TIMA counts one per 256, 4, 16 or 64 M-cycles while the timer is enabled, from any divider value whose edge
latch agrees with it, until it overflows (R456, R454). -/
def Obligations.TimerRate : Prop :=
  ∀ (s : State) (n : Nat),
    let period := [256, 4, 16, 64].getD (s.timer.tac.toNat % 4) 0
    let d := s.timer.div16.toNat
    let count := (d + n) / period - d / period
    s.timer.tac.getLsbD 2 = true → s.timer.prev = decide (period / 2 ≤ d % period) →
    s.timer.tima.toNat + count ≤ 255 →
    (ticks n s).timer.tima.toNat = s.timer.tima.toNat + count

/-- A write of 0xFF46 copies 160 bytes into OAM: none in the first two M-cycles, byte k in the one after k + 2
more, the source read as if no transfer were active; the transfer ends with the 162nd. From a source page below
OAM, the copied bytes are what the bus shows there at the write (R460 to R464). That byte k's read sees the machine
as the video and audio stages of its own M-cycle left it is read from the order of R450's stages (log entry 17,
DEDUCED). -/
def Obligations.DmaCopies : Prop :=
  ∀ (s : State) (page : Byte), s.dma.quiet →
    let u := busWrite s 0xFF46 page
    (∀ n, n ≤ 162 → ((ticks n u).dma.active = true ↔ 2 ≤ n ∧ n < 162)) ∧
    (∀ k, k < 160 → (ticks 162 u).oam.read k =
      dmaRead (audioStage (videoStage (ticks (k + 2) u))) (word page 0 + BitVec.ofNat 16 k)) ∧
    (page.toNat < 0xFE → ∀ k, k < 160 → (ticks 162 u).oam.read k = busRead s (word page 0 + BitVec.ofNat 16 k)) ∧
    ∀ k, 160 ≤ k → (ticks 162 u).oam.read k = s.oam.read k

/-- The joypad poll that ends each tick: a line reads low if a selected group has it pressed, and a line going
from released to pressed requests the interrupt (R470 to R472). -/
def Obligations.JoypadPoll : Prop :=
  ∀ (s : State) (i : Nat), i < 4 →
    let input := inputAt s.cfg s.tickCount
    let low := (s.joypad.sel.getLsbD 0 = false ∧ input.dpad.getLsbD i = false) ∨
      (s.joypad.sel.getLsbD 1 = false ∧ input.buttons.getLsbD i = false)
    ((tick s).joypad.lines.getLsbD i = false ↔ low) ∧
    (s.joypad.lines.getLsbD i = true → low → (tick s).ifl.getLsbD 4 = true) ∧
    ((∀ j, j < 4 → s.joypad.lines.getLsbD j = true → (tick s).joypad.lines.getLsbD j = true) →
      (tick s).ifl.getLsbD 4 = s.ifl.getLsbD 4)

/-! ## Video (62_video.md) -/

/-- With the display on, an M-cycle is four dots of a frame of 70224; with it off, the video unit is frozen and
requests nothing (R510, R511, R534). -/
def Obligations.FramePosition : Prop :=
  ∀ s : State, s.video.Inv →
    (s.video.lcdc.getLsbD 7 = true →
      (tick s).video.framePos = (s.video.framePos + 4) % 70224) ∧
    (s.video.lcdc.getLsbD 7 = false →
      (tick s).video = s.video ∧ (tick s).ifl.getLsbD 0 = s.ifl.getLsbD 0 ∧ (tick s).ifl.getLsbD 1 = s.ifl.getLsbD 1)

/-- In an M-cycle with the display on, the VBlank request is made exactly when the frame reaches line 144, and
the frame is signalled complete exactly when line 153 ends (R530, R531, R535). -/
def Obligations.VBlankOnce : Prop :=
  ∀ (vram oam : Memory) (v : Video), v.Inv → v.lcdc.getLsbD 7 = true →
    let e := videoTick vram oam v
    (e.irq.getLsbD 0 = true ↔ v.framePos < 144 * 456 ∧ 144 * 456 ≤ v.framePos + 4) ∧
    (OutEvent.frameComplete ∈ e.calls ↔ 70224 ≤ v.framePos + 4)

/-- The STAT request is made exactly at a dot whose combined signal is 1 where the latched one was 0; the signal
is the or of the enabled conditions (R532, R533). -/
def Obligations.StatEdge : Prop :=
  ∀ (vram oam : Memory) (e : VideoEffect),
    let v := (videoDot vram oam e).video
    let signal := (v.statEn.getLsbD 3 = true ∧ v.ly = v.lyc.toNat) ∨ (v.statEn.getLsbD 2 = true ∧ v.mode = .oamScan) ∨
      (v.statEn.getLsbD 1 = true ∧ v.mode = .vblank) ∨ (v.statEn.getLsbD 0 = true ∧ v.mode = .hblank)
    (v.statLine = true ↔ signal) ∧
    ((videoDot vram oam e).irq.getLsbD 1 = true ↔ e.irq.getLsbD 1 = true ∨ (signal ∧ e.video.statLine = false))

/-! ## Audio (63_audio.md) -/

/-- While the master enable is off, a write to 0xFF10-0xFF25 changes nothing, a wave-table write lands, and in a
state that keeps the invariant every level is 0 (R572, R573, R613c). -/
def Obligations.AudioOff : Prop :=
  ∀ (s : State) (a : Word) (v : Byte), s.audio.on = false →
    (0xFF10 ≤ a.toNat → a.toNat ≤ 0xFF25 → busWrite s a v = s) ∧
    (0xFF30 ≤ a.toNat → a.toNat ≤ 0xFF3F → (busWrite s a v).audio.ch3.table.read (a.toNat - 0xFF30) = v) ∧
    (s.audio.Inv → s.audio.ch1.level = 0 ∧ s.audio.ch2.level = 0 ∧ s.audio.ch3.level = 0 ∧ s.audio.ch4.level = 0)

/-- A channel's DAC switched off silences it at once, a later trigger leaves it silent, and it adds nothing to a
sample: channels 1, 2 and 4 by a volume register with zero volume and no ascent, channel 3 by NR30 with bit 7
clear (R585, R573, R603, R613a). -/
def Obligations.DacSilence : Prop :=
  ∀ (s : State) (v w : Byte), s.audio.on = true →
    (v &&& 0xF8 = 0 →
      (let t := busWrite s 0xFF12 v
       let u := busWrite t 0xFF14 w
       t.audio.ch1.active = false ∧ t.audio.ch1.level = 0 ∧ u.audio.ch1.active = false ∧ u.audio.ch1.level = 0) ∧
      (let t := busWrite s 0xFF17 v
       let u := busWrite t 0xFF19 w
       t.audio.ch2.active = false ∧ t.audio.ch2.level = 0 ∧ u.audio.ch2.active = false ∧ u.audio.ch2.level = 0) ∧
      let t := busWrite s 0xFF21 v
      let u := busWrite t 0xFF23 w
      t.audio.ch4.active = false ∧ t.audio.ch4.level = 0 ∧ u.audio.ch4.active = false ∧ u.audio.ch4.level = 0) ∧
    (v.getLsbD 7 = false →
      let t := busWrite s 0xFF1A v
      let u := busWrite t 0xFF1E w
      t.audio.ch3.active = false ∧ t.audio.ch3.level = 0 ∧ u.audio.ch3.active = false ∧ u.audio.ch3.level = 0)

/-! ## Reset and the invariant -/

/-- What power-on reset leaves, whatever the parameters: PC 0, interrupts off, neither halted nor locked, IF and
IE clear, the general registers RESET_REGS with F's low nibble zero, the overlay visible, bank 1 selected, every
element of the timer, DMA, joypad, serial, video and audio units at its stated value, the memories as the parameters
give them, no tick counted and no sink called (R47 to R52, R650, R651, R653). Empty object line buffers are the empty
list (log entry 12). -/
def Obligations.ResetValues : Prop :=
  ∀ (cfg : Config) (p : PowerOn),
    let s := State.powerOn cfg p
    (s.cpu.pc = 0 ∧ s.cpu.ime = false ∧ s.cpu.imePending = false ∧ s.cpu.halted = false ∧ s.cpu.locked = false ∧
      s.ifl = 0 ∧ s.ie = 0) ∧
    (s.cpu.a = p.a ∧ (∀ i, s.cpu.f.getLsbD i = (decide (4 ≤ i) && p.f.getLsbD i)) ∧ s.cpu.b = p.b ∧ s.cpu.c = p.c ∧
      s.cpu.d = p.d ∧ s.cpu.e = p.e ∧ s.cpu.h = p.h ∧ s.cpu.l = p.l ∧ s.cpu.sp = p.sp) ∧
    (s.bootDisabled = false ∧ s.cart.ramEnable = false ∧ s.cart.bankLow = 1 ∧ s.cart.bankHigh = 0 ∧
      s.cart.mode = false ∧ s.cart.romBank = 1 ∧ s.cart.ramBank = 0) ∧
    (s.timer = ⟨0, 0, 0, 0, false⟩ ∧ s.dma = ⟨none, none, false, 0, 0, 0⟩ ∧ s.joypad = ⟨0, 0xF⟩ ∧
      s.serial = ⟨0, 0⟩ ∧ s.tickCount = 0) ∧
    s.video =
      { lcdc := 0, statEn := 0, mode := .hblank, scy := 0, scx := 0, lyc := 0, bgp := 0, obp0 := 0, obp1 := 0, wy := 0,
        wx := 0, ly := 0, dot := 0, statLine := false, wly := 0, winUsed := false, objList := [], objLine := [],
        startup := 0, fifo := [], fstep := 0, tile := 0, lo := 0, hi := 0, fetchX := 0, lx := 0, discard := 0,
        inWindow := false } ∧
    (let square : Square :=
      { nrx1 := 0, nrx2 := 0, nrx3 := 0, nrx4 := 0, active := false, dac := false, len := 0, volume := 0,
        envTimer := 0, timer := 0, dutyPos := 0 }
     s.audio =
      { on := false, sweep := { nr10 := 0, shadow := 0, timer := 0, en := false }, ch1 := square, ch2 := square,
        ch3 :=
          { nr30 := 0, nr31 := 0, nr32 := 0, nr33 := 0, nr34 := 0, active := false, dac := false, len := 0, timer := 0,
            pos := 0, sampleBuf := 0, table := [] },
        ch4 :=
          { nr41 := 0, nr42 := 0, nr43 := 0, nr44 := 0, active := false, dac := false, len := 0, volume := 0,
            envTimer := 0, count := 0, lfsr := 0 },
        nr50 := 0, nr51 := 0, fsStep := 0, fsPrev := false, sampleCount := 0 }) ∧
    (s.vram = p.vram ∧ s.wram = p.wram ∧ s.oam = p.oam ∧ s.hram = p.hram ∧ s.cartRam = p.cartRam) ∧
    s.cfg = cfg ∧ s.out = []

/-- The reset state keeps the machine's invariant. -/
def Obligations.InvAtReset : Prop := State.reset.Inv

/-- Every step keeps the machine's invariant, from every state that has it: F's low nibble (R32), canonical
memories, bank_low never 0 (R143), the video unit's counters and modes (R536), the audio unit's counters and
silence (R613), SC's unused bits (R474). -/
def Obligations.InvKeptByStep : Prop := ∀ s t : State, s.Inv → step s = .next t → t.Inv
end

