-- ==== Sys2Proof/Laws/Memory.lean ====
section
/-! SUPPORT. The laws of a memory image: read after write, and that a write keeps the canonical form and the
bounds. -/

namespace Sys2Proof

theorem Memory.read_filter_ne (m : Memory) (a b : Nat) :
    Memory.read (m.filter (fun c => c.1 != a)) b = if b = a then 0 else Memory.read m b := by
  induction m with
  | nil => simp [Memory.read]
  | cons c m ih =>
    obtain ⟨k, v⟩ := c
    by_cases hk : k = a
    · subst hk
      simp only [List.filter_cons, bne_self_eq_false, Bool.false_eq_true, if_false, ih, Memory.read]
      split <;> simp_all [eq_comm]
    · simp only [List.filter_cons, bne_iff_ne, ne_eq, hk, not_false_eq_true, if_true, Memory.read, ih]
      split <;> simp_all

theorem Memory.read_insert (m : Memory) (a : Nat) (v : Byte) (b : Nat) :
    Memory.read (Memory.insert m a v) b = if b = a then v else Memory.read m b := by
  induction m with
  | nil => simp [Memory.insert, Memory.read, eq_comm]
  | cons c m ih =>
    obtain ⟨k, w⟩ := c
    have hba : (a = b) = (b = a) := propext eq_comm
    simp only [Memory.insert]
    split
    · simp [Memory.read, hba]
    · split
      · next he =>
        subst he
        simp only [Memory.read, hba]
        split <;> rfl
      · next _ hk =>
        simp only [Memory.read, ih]
        by_cases hb : b = a
        · subst hb; simp [Ne.symm hk]
        · simp [hb]

/-- Read after write, for every memory image, canonical or not. -/
theorem Memory.read_write (m : Memory) (a : Nat) (v : Byte) (b : Nat) :
    Memory.read (Memory.write m a v) b = if b = a then v else Memory.read m b := by
  unfold Memory.write
  split
  · subst_vars; exact Memory.read_filter_ne m a b
  · exact Memory.read_insert m a v b

@[simp] theorem Memory.read_write_self (m : Memory) (a : Nat) (v : Byte) :
    Memory.read (Memory.write m a v) a = v := by simp [Memory.read_write]

theorem Memory.read_write_ne (m : Memory) {a b : Nat} (v : Byte) (h : b ≠ a) :
    Memory.read (Memory.write m a v) b = Memory.read m b := by simp [Memory.read_write, h]

@[simp] theorem Memory.read_nil (a : Nat) : Memory.read [] a = 0 := rfl

theorem Memory.mem_insert {m : Memory} {a : Nat} {v : Byte} {c : Host.Cell}
    (h : c ∈ Memory.insert m a v) : c = (a, v) ∨ c ∈ m := by
  induction m with
  | nil => simpa [Memory.insert] using h
  | cons d m ih =>
    obtain ⟨k, w⟩ := d
    simp only [Memory.insert] at h
    split at h
    · simpa using h
    · split at h
      · rcases List.mem_cons.1 h with h | h
        · exact .inl h
        · exact .inr (List.mem_cons_of_mem _ h)
      · rcases List.mem_cons.1 h with h | h
        · exact .inr (h ▸ List.mem_cons_self)
        · exact (ih h).imp id (List.mem_cons_of_mem _)

theorem Memory.mem_write {m : Memory} {a : Nat} {v : Byte} {c : Host.Cell}
    (h : c ∈ Memory.write m a v) : c = (a, v) ∨ c ∈ m := by
  unfold Memory.write at h
  split at h
  · exact .inr (List.mem_filter.1 h).1
  · exact Memory.mem_insert h

theorem Memory.wf_insert {m : Memory} (a : Nat) {v : Byte} (hv : v ≠ 0) (h : m.wf) :
    (Memory.insert m a v).wf := by
  refine ⟨?_, fun c hc => ?_⟩
  · induction m with
    | nil => simp [Memory.insert]
    | cons d m ih =>
      obtain ⟨k, w⟩ := d
      obtain ⟨hp, hz⟩ := h
      rw [List.pairwise_cons] at hp
      have hm : Memory.wf m := ⟨hp.2, fun c hc => hz c (List.mem_cons_of_mem _ hc)⟩
      simp only [Memory.insert]
      split
      · next hlt =>
        refine List.pairwise_cons.2 ⟨fun c hc => ?_, List.pairwise_cons.2 hp⟩
        rcases List.mem_cons.1 hc with rfl | hc
        · exact hlt
        · exact lt_trans hlt (hp.1 c hc)
      · split
        · next he => subst he; exact List.pairwise_cons.2 hp
        · next h1 h2 =>
          refine List.pairwise_cons.2 ⟨fun c hc => ?_, ih hm⟩
          rcases Memory.mem_insert hc with rfl | hc
          · show k < a
            omega
          · exact hp.1 c hc
  · rcases Memory.mem_insert hc with rfl | hc
    · exact hv
    · exact h.2 c hc

/-- Every write keeps the canonical form. -/
theorem Memory.wf_write {m : Memory} (a : Nat) (v : Byte) (h : m.wf) : (Memory.write m a v).wf := by
  unfold Memory.write
  split
  · exact ⟨h.1.filter _, fun c hc => h.2 c (List.mem_filter.1 hc).1⟩
  · next hv => exact Memory.wf_insert a hv h

@[simp] theorem Memory.wf_nil : Memory.wf [] := by simp [Memory.wf]

theorem Memory.read_eq_zero_of_forall_ne {m : Memory} {a : Nat} (h : ∀ c ∈ m, c.1 ≠ a) :
    Memory.read m a = 0 := by
  induction m with
  | nil => rfl
  | cons c m ih =>
    obtain ⟨k, v⟩ := c
    simp only [Memory.read]
    rw [if_neg (h _ List.mem_cons_self)]
    exact ih fun d hd => h d (List.mem_cons_of_mem _ hd)

/-- In canonical form equal memories are equal data: two images that read alike are one list. -/
theorem Memory.ext_of_wf {m n : Memory} (hm : m.wf) (hn : n.wf) (h : ∀ a, m.read a = n.read a) : m = n := by
  induction m generalizing n with
  | nil =>
    cases n with
    | nil => rfl
    | cons c n =>
      have := h c.1
      simp only [Memory.read, if_true] at this
      exact absurd this.symm (hn.2 c List.mem_cons_self)
  | cons c m ih =>
    obtain ⟨k, v⟩ := c
    have hmp := List.pairwise_cons.1 hm.1
    have hmt : Memory.wf m := ⟨hmp.2, fun c hc => hm.2 c (List.mem_cons_of_mem _ hc)⟩
    have hk0 : Memory.read m k = 0 := Memory.read_eq_zero_of_forall_ne fun d hd => (hmp.1 d hd).ne'
    have hv0 : v ≠ 0 := hm.2 _ List.mem_cons_self
    cases n with
    | nil =>
      have := h k
      simp only [Memory.read, if_true] at this
      exact absurd this hv0
    | cons d n =>
      obtain ⟨j, w⟩ := d
      have hnp := List.pairwise_cons.1 hn.1
      have hnt : Memory.wf n := ⟨hnp.2, fun c hc => hn.2 c (List.mem_cons_of_mem _ hc)⟩
      have hj0 : Memory.read n j = 0 := Memory.read_eq_zero_of_forall_ne fun d hd => (hnp.1 d hd).ne'
      have hw0 : w ≠ 0 := hn.2 _ List.mem_cons_self
      have hkj : k = j := by
        rcases lt_trichotomy k j with hlt | he | hlt
        · have := h k
          simp only [Memory.read, if_true] at this
          rw [if_neg (by omega), Memory.read_eq_zero_of_forall_ne fun d hd => by
            have := hnp.1 d hd; simp only at this; omega] at this
          exact absurd this hv0
        · exact he
        · have := h j
          simp only [Memory.read, if_true] at this
          rw [if_neg (by omega), Memory.read_eq_zero_of_forall_ne fun d hd => by
            have := hmp.1 d hd; simp only at this; omega] at this
          exact absurd this.symm hw0
      subst hkj
      have hvw : v = w := by simpa [Memory.read] using h k
      subst hvw
      congr 1
      refine ih hmt hnt fun a => ?_
      by_cases ha : k = a
      · subst ha; rw [hk0, hj0]
      · simpa [Memory.read, ha] using h a

namespace Machine

/-- A write inside the array keeps it an array in canonical form. -/
theorem ArrayOf.write {n : Nat} {m : Memory} (h : ArrayOf n m) {a : Nat} (ha : a < n) (v : Byte) :
    ArrayOf n (m.write a v) where
  wf := Memory.wf_write a v h.wf
  bound c hc := by
    rcases Memory.mem_write hc with rfl | hc
    · exact ha
    · exact h.bound c hc

theorem ArrayOf.nil (n : Nat) : ArrayOf n [] where
  wf := Memory.wf_nil
  bound c hc := by cases hc

end Machine

end Sys2Proof
end

