-- ==== Sys2Proof/Laws/State.lean ====
section
/-! SUPPORT. One lemma per field per update: what each small operation on State, and the tick, leaves
alone. -/

namespace Sys2Proof.Machine

variable (s : State)

/-! ## mapCpu -/

variable (f : Cpu → Cpu)

@[simp] theorem mapCpu_cpu : (mapCpu f s).cpu = f s.cpu := rfl
@[simp] theorem mapCpu_ifl : (mapCpu f s).ifl = s.ifl := rfl
@[simp] theorem mapCpu_ie : (mapCpu f s).ie = s.ie := rfl
@[simp] theorem mapCpu_bootDisabled : (mapCpu f s).bootDisabled = s.bootDisabled := rfl
@[simp] theorem mapCpu_cart : (mapCpu f s).cart = s.cart := rfl
@[simp] theorem mapCpu_vram : (mapCpu f s).vram = s.vram := rfl
@[simp] theorem mapCpu_wram : (mapCpu f s).wram = s.wram := rfl
@[simp] theorem mapCpu_oam : (mapCpu f s).oam = s.oam := rfl
@[simp] theorem mapCpu_hram : (mapCpu f s).hram = s.hram := rfl
@[simp] theorem mapCpu_cartRam : (mapCpu f s).cartRam = s.cartRam := rfl
@[simp] theorem mapCpu_timer : (mapCpu f s).timer = s.timer := rfl
@[simp] theorem mapCpu_dma : (mapCpu f s).dma = s.dma := rfl
@[simp] theorem mapCpu_joypad : (mapCpu f s).joypad = s.joypad := rfl
@[simp] theorem mapCpu_serial : (mapCpu f s).serial = s.serial := rfl
@[simp] theorem mapCpu_video : (mapCpu f s).video = s.video := rfl
@[simp] theorem mapCpu_audio : (mapCpu f s).audio = s.audio := rfl
@[simp] theorem mapCpu_tickCount : (mapCpu f s).tickCount = s.tickCount := rfl
@[simp] theorem mapCpu_cfg : (mapCpu f s).cfg = s.cfg := rfl
@[simp] theorem mapCpu_out : (mapCpu f s).out = s.out := rfl

/-! ## ackIrq -/

@[simp] theorem ackIrq_cpu (k : Nat) : (ackIrq k s).cpu = s.cpu := rfl
@[simp] theorem ackIrq_ie (k : Nat) : (ackIrq k s).ie = s.ie := rfl
@[simp] theorem ackIrq_bootDisabled (k : Nat) : (ackIrq k s).bootDisabled = s.bootDisabled := rfl
@[simp] theorem ackIrq_cart (k : Nat) : (ackIrq k s).cart = s.cart := rfl
@[simp] theorem ackIrq_vram (k : Nat) : (ackIrq k s).vram = s.vram := rfl
@[simp] theorem ackIrq_wram (k : Nat) : (ackIrq k s).wram = s.wram := rfl
@[simp] theorem ackIrq_oam (k : Nat) : (ackIrq k s).oam = s.oam := rfl
@[simp] theorem ackIrq_hram (k : Nat) : (ackIrq k s).hram = s.hram := rfl
@[simp] theorem ackIrq_cartRam (k : Nat) : (ackIrq k s).cartRam = s.cartRam := rfl
@[simp] theorem ackIrq_timer (k : Nat) : (ackIrq k s).timer = s.timer := rfl
@[simp] theorem ackIrq_dma (k : Nat) : (ackIrq k s).dma = s.dma := rfl
@[simp] theorem ackIrq_joypad (k : Nat) : (ackIrq k s).joypad = s.joypad := rfl
@[simp] theorem ackIrq_serial (k : Nat) : (ackIrq k s).serial = s.serial := rfl
@[simp] theorem ackIrq_video (k : Nat) : (ackIrq k s).video = s.video := rfl
@[simp] theorem ackIrq_audio (k : Nat) : (ackIrq k s).audio = s.audio := rfl
@[simp] theorem ackIrq_tickCount (k : Nat) : (ackIrq k s).tickCount = s.tickCount := rfl
@[simp] theorem ackIrq_cfg (k : Nat) : (ackIrq k s).cfg = s.cfg := rfl
@[simp] theorem ackIrq_out (k : Nat) : (ackIrq k s).out = s.out := rfl

/-! ## The stages of the tick -/

@[simp] theorem videoStage_cpu : (videoStage s).cpu = s.cpu := rfl
@[simp] theorem videoStage_ie : (videoStage s).ie = s.ie := rfl
@[simp] theorem videoStage_bootDisabled : (videoStage s).bootDisabled = s.bootDisabled := rfl
@[simp] theorem videoStage_cart : (videoStage s).cart = s.cart := rfl
@[simp] theorem videoStage_vram : (videoStage s).vram = s.vram := rfl
@[simp] theorem videoStage_wram : (videoStage s).wram = s.wram := rfl
@[simp] theorem videoStage_oam : (videoStage s).oam = s.oam := rfl
@[simp] theorem videoStage_hram : (videoStage s).hram = s.hram := rfl
@[simp] theorem videoStage_cartRam : (videoStage s).cartRam = s.cartRam := rfl
@[simp] theorem videoStage_timer : (videoStage s).timer = s.timer := rfl
@[simp] theorem videoStage_dma : (videoStage s).dma = s.dma := rfl
@[simp] theorem videoStage_joypad : (videoStage s).joypad = s.joypad := rfl
@[simp] theorem videoStage_serial : (videoStage s).serial = s.serial := rfl
@[simp] theorem videoStage_audio : (videoStage s).audio = s.audio := rfl
@[simp] theorem videoStage_tickCount : (videoStage s).tickCount = s.tickCount := rfl
@[simp] theorem videoStage_cfg : (videoStage s).cfg = s.cfg := rfl

/-! ## Audio stage -/

@[simp] theorem audioStage_cpu : (audioStage s).cpu = s.cpu := rfl
@[simp] theorem audioStage_ifl : (audioStage s).ifl = s.ifl := rfl
@[simp] theorem audioStage_ie : (audioStage s).ie = s.ie := rfl
@[simp] theorem audioStage_bootDisabled : (audioStage s).bootDisabled = s.bootDisabled := rfl
@[simp] theorem audioStage_cart : (audioStage s).cart = s.cart := rfl
@[simp] theorem audioStage_vram : (audioStage s).vram = s.vram := rfl
@[simp] theorem audioStage_wram : (audioStage s).wram = s.wram := rfl
@[simp] theorem audioStage_oam : (audioStage s).oam = s.oam := rfl
@[simp] theorem audioStage_hram : (audioStage s).hram = s.hram := rfl
@[simp] theorem audioStage_cartRam : (audioStage s).cartRam = s.cartRam := rfl
@[simp] theorem audioStage_timer : (audioStage s).timer = s.timer := rfl
@[simp] theorem audioStage_dma : (audioStage s).dma = s.dma := rfl
@[simp] theorem audioStage_joypad : (audioStage s).joypad = s.joypad := rfl
@[simp] theorem audioStage_serial : (audioStage s).serial = s.serial := rfl
@[simp] theorem audioStage_video : (audioStage s).video = s.video := rfl
@[simp] theorem audioStage_tickCount : (audioStage s).tickCount = s.tickCount := rfl
@[simp] theorem audioStage_cfg : (audioStage s).cfg = s.cfg := rfl

/-! ## DMA stage -/

@[simp] theorem dmaStage_cpu : (dmaStage s).cpu = s.cpu := rfl
@[simp] theorem dmaStage_ifl : (dmaStage s).ifl = s.ifl := rfl
@[simp] theorem dmaStage_ie : (dmaStage s).ie = s.ie := rfl
@[simp] theorem dmaStage_bootDisabled : (dmaStage s).bootDisabled = s.bootDisabled := rfl
@[simp] theorem dmaStage_cart : (dmaStage s).cart = s.cart := rfl
@[simp] theorem dmaStage_vram : (dmaStage s).vram = s.vram := rfl
@[simp] theorem dmaStage_wram : (dmaStage s).wram = s.wram := rfl
@[simp] theorem dmaStage_hram : (dmaStage s).hram = s.hram := rfl
@[simp] theorem dmaStage_cartRam : (dmaStage s).cartRam = s.cartRam := rfl
@[simp] theorem dmaStage_timer : (dmaStage s).timer = s.timer := rfl
@[simp] theorem dmaStage_joypad : (dmaStage s).joypad = s.joypad := rfl
@[simp] theorem dmaStage_serial : (dmaStage s).serial = s.serial := rfl
@[simp] theorem dmaStage_video : (dmaStage s).video = s.video := rfl
@[simp] theorem dmaStage_audio : (dmaStage s).audio = s.audio := rfl
@[simp] theorem dmaStage_tickCount : (dmaStage s).tickCount = s.tickCount := rfl
@[simp] theorem dmaStage_cfg : (dmaStage s).cfg = s.cfg := rfl
@[simp] theorem dmaStage_out : (dmaStage s).out = s.out := rfl

/-! ## Timer stage -/

@[simp] theorem timerStage_cpu : (timerStage s).cpu = s.cpu := rfl
@[simp] theorem timerStage_ie : (timerStage s).ie = s.ie := rfl
@[simp] theorem timerStage_bootDisabled : (timerStage s).bootDisabled = s.bootDisabled := rfl
@[simp] theorem timerStage_cart : (timerStage s).cart = s.cart := rfl
@[simp] theorem timerStage_vram : (timerStage s).vram = s.vram := rfl
@[simp] theorem timerStage_wram : (timerStage s).wram = s.wram := rfl
@[simp] theorem timerStage_oam : (timerStage s).oam = s.oam := rfl
@[simp] theorem timerStage_hram : (timerStage s).hram = s.hram := rfl
@[simp] theorem timerStage_cartRam : (timerStage s).cartRam = s.cartRam := rfl
@[simp] theorem timerStage_dma : (timerStage s).dma = s.dma := rfl
@[simp] theorem timerStage_joypad : (timerStage s).joypad = s.joypad := rfl
@[simp] theorem timerStage_serial : (timerStage s).serial = s.serial := rfl
@[simp] theorem timerStage_video : (timerStage s).video = s.video := rfl
@[simp] theorem timerStage_audio : (timerStage s).audio = s.audio := rfl
@[simp] theorem timerStage_tickCount : (timerStage s).tickCount = s.tickCount := rfl
@[simp] theorem timerStage_cfg : (timerStage s).cfg = s.cfg := rfl
@[simp] theorem timerStage_out : (timerStage s).out = s.out := rfl

/-! ## Joypad poll -/

@[simp] theorem joypadPoll_cpu : (joypadPoll s).cpu = s.cpu := rfl
@[simp] theorem joypadPoll_ie : (joypadPoll s).ie = s.ie := rfl
@[simp] theorem joypadPoll_bootDisabled : (joypadPoll s).bootDisabled = s.bootDisabled := rfl
@[simp] theorem joypadPoll_cart : (joypadPoll s).cart = s.cart := rfl
@[simp] theorem joypadPoll_vram : (joypadPoll s).vram = s.vram := rfl
@[simp] theorem joypadPoll_wram : (joypadPoll s).wram = s.wram := rfl
@[simp] theorem joypadPoll_oam : (joypadPoll s).oam = s.oam := rfl
@[simp] theorem joypadPoll_hram : (joypadPoll s).hram = s.hram := rfl
@[simp] theorem joypadPoll_cartRam : (joypadPoll s).cartRam = s.cartRam := rfl
@[simp] theorem joypadPoll_timer : (joypadPoll s).timer = s.timer := rfl
@[simp] theorem joypadPoll_dma : (joypadPoll s).dma = s.dma := rfl
@[simp] theorem joypadPoll_serial : (joypadPoll s).serial = s.serial := rfl
@[simp] theorem joypadPoll_video : (joypadPoll s).video = s.video := rfl
@[simp] theorem joypadPoll_audio : (joypadPoll s).audio = s.audio := rfl
@[simp] theorem joypadPoll_tickCount : (joypadPoll s).tickCount = s.tickCount := rfl
@[simp] theorem joypadPoll_cfg : (joypadPoll s).cfg = s.cfg := rfl
@[simp] theorem joypadPoll_out : (joypadPoll s).out = s.out := rfl

/-! ## Tick count -/

@[simp] theorem countTick_cpu : (countTick s).cpu = s.cpu := rfl
@[simp] theorem countTick_ifl : (countTick s).ifl = s.ifl := rfl
@[simp] theorem countTick_ie : (countTick s).ie = s.ie := rfl
@[simp] theorem countTick_bootDisabled : (countTick s).bootDisabled = s.bootDisabled := rfl
@[simp] theorem countTick_cart : (countTick s).cart = s.cart := rfl
@[simp] theorem countTick_vram : (countTick s).vram = s.vram := rfl
@[simp] theorem countTick_wram : (countTick s).wram = s.wram := rfl
@[simp] theorem countTick_oam : (countTick s).oam = s.oam := rfl
@[simp] theorem countTick_hram : (countTick s).hram = s.hram := rfl
@[simp] theorem countTick_cartRam : (countTick s).cartRam = s.cartRam := rfl
@[simp] theorem countTick_timer : (countTick s).timer = s.timer := rfl
@[simp] theorem countTick_dma : (countTick s).dma = s.dma := rfl
@[simp] theorem countTick_joypad : (countTick s).joypad = s.joypad := rfl
@[simp] theorem countTick_serial : (countTick s).serial = s.serial := rfl
@[simp] theorem countTick_video : (countTick s).video = s.video := rfl
@[simp] theorem countTick_audio : (countTick s).audio = s.audio := rfl
@[simp] theorem countTick_cfg : (countTick s).cfg = s.cfg := rfl
@[simp] theorem countTick_out : (countTick s).out = s.out := rfl

/-! ## The whole tick -/

@[simp] theorem tick_cpu : (tick s).cpu = s.cpu := rfl
@[simp] theorem tick_ie : (tick s).ie = s.ie := rfl
@[simp] theorem tick_bootDisabled : (tick s).bootDisabled = s.bootDisabled := rfl
@[simp] theorem tick_cart : (tick s).cart = s.cart := rfl
@[simp] theorem tick_vram : (tick s).vram = s.vram := rfl
@[simp] theorem tick_wram : (tick s).wram = s.wram := rfl
@[simp] theorem tick_hram : (tick s).hram = s.hram := rfl
@[simp] theorem tick_cartRam : (tick s).cartRam = s.cartRam := rfl
@[simp] theorem tick_serial : (tick s).serial = s.serial := rfl
@[simp] theorem tick_cfg : (tick s).cfg = s.cfg := rfl
@[simp] theorem tick_tickCount : (tick s).tickCount = s.tickCount + 1 := rfl
@[simp] theorem tick_timer : (tick s).timer = timerTick s.timer := rfl
@[simp] theorem tick_dma : (tick s).dma = dmaStart (dmaAdvance s.dma) := rfl
@[simp] theorem tick_audio : (tick s).audio = (audioTick s.cfg s.timer.div16 s.audio).1 := rfl
@[simp] theorem tick_video : (tick s).video = (videoTick s.vram s.oam s.video).video := rfl
@[simp] theorem idle_eq : idle s = tick s := rfl

end Sys2Proof.Machine
end

