-- ==== Sys2Proof/Laws/Bus.lean ====
section
/-! SUPPORT. What bus reads and writes see and change: the CPU's registers play no part, a write changes one
memory byte at most, and a tick changes no memory byte outside OAM. -/

namespace Sys2Proof.Machine

variable (s : State) (f : Cpu → Cpu) (a : Word) (v : Byte)

/-! ## The CPU's registers play no part -/

@[simp] theorem mapCpu_mapCpu (g : Cpu → Cpu) : mapCpu g (mapCpu f s) = mapCpu (fun c => g (f c)) s := rfl

theorem mapCpu_self (h : f s.cpu = s.cpu) : mapCpu f s = s := by simp [mapCpu, h]

@[simp] theorem busRead_mapCpu : busRead (mapCpu f s) a = busRead s a := rfl

@[simp] theorem dmaRead_mapCpu : dmaRead (mapCpu f s) a = dmaRead s a := rfl

@[simp] theorem tick_mapCpu : tick (mapCpu f s) = mapCpu f (tick s) := rfl

@[simp] theorem ticks_mapCpu (n : Nat) : ticks n (mapCpu f s) = mapCpu f (ticks n s) := by
  induction n generalizing s with
  | zero => rfl
  | succ n ih => simp only [ticks, tick_mapCpu, ih]

@[simp] theorem ioWrite_mapCpu (r : IoReg) : ioWrite (mapCpu f s) r v = mapCpu f (ioWrite s r v) := by
  cases r <;> rfl

@[simp] theorem busWrite_mapCpu : busWrite (mapCpu f s) a v = mapCpu f (busWrite s a v) := by
  unfold busWrite
  cases regionOf a <;> first | rfl | exact ioWrite_mapCpu ..

@[simp] theorem transferState_mapCpu : transferState (mapCpu f s) = mapCpu f (transferState s) := by
  unfold transferState
  simp only [mapCpu_cfg]
  cases s.cfg.phase <;> rfl

@[simp] theorem memRead_mapCpu : memRead (mapCpu f s) a = ((memRead s a).1, mapCpu f (memRead s a).2) := by
  simp [memRead]

@[simp] theorem memWrite_mapCpu : memWrite (mapCpu f s) a v = mapCpu f (memWrite s a v) := by
  unfold memWrite
  simp only [mapCpu_cfg]
  cases s.cfg.phase <;> simp

@[simp] theorem pending_mapCpu : pending (mapCpu f s) = pending s := rfl

@[simp] theorem storeLoc_mapCpu : storeLoc (mapCpu f s) a = storeLoc s a := rfl

@[simp] theorem loadLoc_mapCpu : loadLoc (mapCpu f s) a = loadLoc s a := rfl

@[simp] theorem byteAt_mapCpu (l : Loc) : (mapCpu f s).byteAt l = s.byteAt l := by cases l <;> rfl

/-! ## What a bus write leaves alone -/

@[simp] theorem ioWrite_cpu (r : IoReg) : (ioWrite s r v).cpu = s.cpu := by cases r <;> rfl
@[simp] theorem ioWrite_cfg (r : IoReg) : (ioWrite s r v).cfg = s.cfg := by cases r <;> rfl
@[simp] theorem ioWrite_tickCount (r : IoReg) : (ioWrite s r v).tickCount = s.tickCount := by cases r <;> rfl
@[simp] theorem ioWrite_out (r : IoReg) : (ioWrite s r v).out = s.out := by cases r <;> rfl
@[simp] theorem ioWrite_ie (r : IoReg) : (ioWrite s r v).ie = s.ie := by cases r <;> rfl
@[simp] theorem ioWrite_cart (r : IoReg) : (ioWrite s r v).cart = s.cart := by cases r <;> rfl
@[simp] theorem ioWrite_vram (r : IoReg) : (ioWrite s r v).vram = s.vram := by cases r <;> rfl
@[simp] theorem ioWrite_wram (r : IoReg) : (ioWrite s r v).wram = s.wram := by cases r <;> rfl
@[simp] theorem ioWrite_oam (r : IoReg) : (ioWrite s r v).oam = s.oam := by cases r <;> rfl
@[simp] theorem ioWrite_hram (r : IoReg) : (ioWrite s r v).hram = s.hram := by cases r <;> rfl
@[simp] theorem ioWrite_cartRam (r : IoReg) : (ioWrite s r v).cartRam = s.cartRam := by cases r <;> rfl

@[simp] theorem busWrite_cpu : (busWrite s a v).cpu = s.cpu := by
  unfold busWrite; cases regionOf a <;> simp
@[simp] theorem busWrite_cfg : (busWrite s a v).cfg = s.cfg := by
  unfold busWrite; cases regionOf a <;> simp
@[simp] theorem busWrite_tickCount : (busWrite s a v).tickCount = s.tickCount := by
  unfold busWrite; cases regionOf a <;> simp
@[simp] theorem busWrite_out : (busWrite s a v).out = s.out := by
  unfold busWrite; cases regionOf a <;> simp

@[simp] theorem memWrite_cpu : (memWrite s a v).cpu = s.cpu := by
  unfold memWrite; cases s.cfg.phase <;> simp
@[simp] theorem memWrite_cfg : (memWrite s a v).cfg = s.cfg := by
  unfold memWrite; cases s.cfg.phase <;> simp
@[simp] theorem memWrite_tickCount : (memWrite s a v).tickCount = s.tickCount + 1 := by
  unfold memWrite; cases s.cfg.phase <;> simp

@[simp] theorem transferState_cfg : (transferState s).cfg = s.cfg := by
  unfold transferState; cases s.cfg.phase <;> simp
@[simp] theorem transferState_cart : (transferState s).cart = s.cart := by
  unfold transferState; cases s.cfg.phase <;> simp
@[simp] theorem transferState_bootDisabled : (transferState s).bootDisabled = s.bootDisabled := by
  unfold transferState; cases s.cfg.phase <;> simp

@[simp] theorem memRead_fst : (memRead s a).1 = busRead (transferState s) a := rfl
@[simp] theorem memRead_snd : (memRead s a).2 = tick s := rfl

/-! ## A bus write changes one memory byte at most -/

theorem audioWrite_table (g : Audio → Audio) (h : ∀ x : Audio, (g x).ch3.table = x.ch3.table) :
    (audioWrite g s).audio.ch3.table = s.audio.ch3.table := by
  show (if s.audio.on then g s.audio else s.audio).ch3.table = _
  split
  · exact h _
  · rfl

theorem writeNr52_table (x : Audio) : (writeNr52 v x).ch3.table = x.ch3.table := by
  unfold writeNr52
  simp only
  split
  · rfl
  · split <;> rfl

theorem writeNr14_table (x : Audio) : (writeNr14 v x).ch3.table = x.ch3.table := by
  unfold writeNr14
  split <;> rfl

theorem Wave.writeControl_table (w : Wave) : (w.writeControl v).table = w.table := by
  unfold Wave.writeControl
  simp only
  split <;> rfl

/-- Only a wave-table address changes the wave table. -/
theorem ioWrite_table (r : IoReg) (h : ∀ k, r ≠ .wave k) :
    (ioWrite s r v).audio.ch3.table = s.audio.ch3.table := by
  cases r with
  | wave k => exact absurd rfl (h k)
  | nr52 => exact writeNr52_table v _
  | nr14 => exact audioWrite_table _ _ (writeNr14_table v)
  | nr34 => exact audioWrite_table _ _ fun x => Wave.writeControl_table v _
  | _ => first | rfl | exact audioWrite_table _ _ fun x => rfl

/-- Only the wave table changes under an I/O write. -/
theorem ioWrite_byteAt (r : IoReg) (l : Loc) :
    (ioWrite s r v).byteAt l = if (match r with | .wave k => some (Loc.wave k) | _ => none) = some l then v
      else s.byteAt l := by
  cases l with
  | wave j =>
    by_cases h : ∃ k, r = .wave k
    · obtain ⟨k, rfl⟩ := h
      simp [ioWrite, State.byteAt, Memory.read_write, eq_comm]
    · have hr : ∀ k, r ≠ .wave k := fun k hk => h ⟨k, hk⟩
      simp [State.byteAt, ioWrite_table s v r hr]
  | _ => cases r <;> simp [State.byteAt]

/-- A bus write stores its byte at `storeLoc` and changes no other byte of memory. -/
theorem busWrite_byteAt (l : Loc) :
    (busWrite s a v).byteAt l = if storeLoc s a = some l then v else s.byteAt l := by
  unfold busWrite storeLoc
  cases regionOf a with
  | rom => cases l <;> simp [State.byteAt]
  | vram k => cases l <;> simp [State.byteAt, Memory.read_write, eq_comm]
  | cartRam =>
    cases l <;> simp only [State.byteAt, writeRam] <;> cases ramCell s.cfg s.cart a <;>
      simp [Memory.read_write, eq_comm]
  | wram k => cases l <;> simp [State.byteAt, Memory.read_write, eq_comm]
  | oam k => cases l <;> cases s.dma.active <;> simp [State.byteAt, Memory.read_write, eq_comm]
  | unmapped => simp
  | io r =>
    simp only [ioWrite_byteAt]
    cases r <;> rfl
  | hram k => cases l <;> simp [State.byteAt, Memory.read_write, eq_comm]
  | ie => cases l <;> simp [State.byteAt]

/-- A bus read of an address that shows a memory byte reads that byte. -/
theorem busRead_of_loadLoc {l : Loc} (h : loadLoc s a = some l) : busRead s a = s.byteAt l := by
  unfold loadLoc at h
  unfold busRead
  split at h
  · next hb => rw [if_pos hb]; cases h; rfl
  · next hb =>
    rw [if_neg hb]
    cases hr : regionOf a with
    | io r => rw [hr] at h; cases r <;> simp_all [ioRead, State.byteAt]; cases h; rfl
    | cartRam =>
      rw [hr] at h
      simp only [Option.map_eq_some_iff] at h
      obtain ⟨k, hk, rfl⟩ := h
      simp [readRam, hk, State.byteAt]
    | oam k =>
      rw [hr] at h
      simp only at h
      split at h
      · cases h
      · next ha => cases h; simp [ha, State.byteAt]
    | rom => rw [hr] at h; cases h; rfl
    | vram k => rw [hr] at h; cases h; rfl
    | wram k => rw [hr] at h; cases h; rfl
    | hram k => rw [hr] at h; cases h; rfl
    | unmapped => rw [hr] at h; cases h
    | ie => rw [hr] at h; cases h

end Sys2Proof.Machine
end

