-- ==== Sys2Proof/Laws/Tick.lean ====
section
/-! SUPPORT. What one M-cycle leaves alone: every byte of memory outside OAM, OAM too while no transfer is
running or queued, and so what the bus reads at every plain address. -/

namespace Sys2Proof.Machine

variable (s : State)

/-! ## The wave table -/

@[simp] theorem waveTick_table (w : Wave) : (waveTick w).table = w.table := by
  unfold waveTick; split <;> rfl

theorem clockSweeps_table (a : Audio) : (clockSweeps a).ch3.table = a.ch3.table := rfl

theorem frameSeqStep_table (a : Audio) : (frameSeqStep a).ch3.table = a.ch3.table := by
  unfold frameSeqStep
  simp only
  split <;> split <;> split <;> rfl

theorem frameSeqEdge_table (d : BitVec 16) (a : Audio) : (frameSeqEdge d a).ch3.table = a.ch3.table := by
  unfold frameSeqEdge
  simp only
  split
  · exact frameSeqStep_table a
  · rfl

theorem sampleOut_table (cfg : Config) (a : Audio) : (sampleOut cfg a).1.ch3.table = a.ch3.table := by
  unfold sampleOut; split <;> rfl

/-- The audio unit never writes its wave table. -/
@[simp] theorem audioTick_table (cfg : Config) (d : BitVec 16) (a : Audio) :
    (audioTick cfg d a).1.ch3.table = a.ch3.table := by
  unfold audioTick
  rw [sampleOut_table]
  show (waveTick (waveTick _)).table = _
  rw [waveTick_table, waveTick_table, frameSeqEdge_table]

/-! ## Memory bytes -/

/-- A tick changes no byte of memory outside OAM. -/
theorem tick_byteAt {l : Loc} (h : l.plain) : (tick s).byteAt l = s.byteAt l := by
  cases l with
  | oam k => exact h.elim
  | wave k => simp [State.byteAt]
  | _ => rfl

theorem ticks_byteAt {l : Loc} (h : l.plain) (n : Nat) : (ticks n s).byteAt l = s.byteAt l := by
  induction n generalizing s with
  | zero => rfl
  | succ n ih => simp only [ticks, ih, tick_byteAt s h]

/-- With no transfer running or queued, a tick starts none. -/
theorem tick_quiet (h : s.dma.quiet) : (tick s).dma.quiet := by
  obtain ⟨h1, h2, h3⟩ := h
  simp [Dma.quiet, dmaAdvance, dmaStart, h1, h2, h3]

/-- With no transfer running, a tick leaves OAM alone. -/
theorem tick_oam (h : s.dma.active = false) : (tick s).oam = s.oam := by
  have hs : (audioStage (videoStage s)).dma.active = false := h
  show (dmaStage (audioStage (videoStage s))).oam = s.oam
  unfold dmaStage
  rw [hs]
  rfl

/-- With no transfer running, a tick changes no byte of memory. -/
theorem tick_byteAt_quiet (h : s.dma.quiet) (l : Loc) : (tick s).byteAt l = s.byteAt l := by
  cases l with
  | oam k => simp [State.byteAt, tick_oam s h.1]
  | _ => exact tick_byteAt s trivial

theorem ticks_quiet (h : s.dma.quiet) (n : Nat) : (ticks n s).dma.quiet := by
  induction n generalizing s with
  | zero => exact h
  | succ n ih => exact ih (tick s) (tick_quiet s h)

theorem ticks_byteAt_quiet (h : s.dma.quiet) (l : Loc) (n : Nat) : (ticks n s).byteAt l = s.byteAt l := by
  induction n generalizing s with
  | zero => rfl
  | succ n ih => rw [ticks, ih (tick s) (tick_quiet s h), tick_byteAt_quiet s h]

/-! ## Fields no tick changes -/

@[simp] theorem ticks_cpu (n : Nat) : (ticks n s).cpu = s.cpu := by
  induction n generalizing s with
  | zero => rfl
  | succ n ih => simp only [ticks, ih, tick_cpu]

@[simp] theorem ticks_cfg (n : Nat) : (ticks n s).cfg = s.cfg := by
  induction n generalizing s with
  | zero => rfl
  | succ n ih => simp only [ticks, ih, tick_cfg]

@[simp] theorem ticks_tickCount (n : Nat) : (ticks n s).tickCount = s.tickCount + n := by
  induction n generalizing s with
  | zero => rfl
  | succ n ih => simp only [ticks, ih, tick_tickCount]; omega

theorem ticks_succ (n : Nat) : ticks (n + 1) s = tick (ticks n s) := by
  induction n generalizing s with
  | zero => rfl
  | succ n ih => exact ih (tick s)

/-! ## What the bus reads -/

/-- An OAM region means an OAM address. -/
theorem regionOf_oam {a : Word} {k : Nat} (h : regionOf a = .oam k) :
    0xFE00 ≤ a.toNat ∧ a.toNat ≤ 0xFE9F ∧ k = a.toNat - 0xFE00 := by
  unfold regionOf at h
  simp only at h
  repeat' split at h
  all_goals first
    | (simp only [reduceCtorEq] at h)
    | (have hk := Region.oam.inj h; omega)

/-- An I/O region means an I/O address. -/
theorem regionOf_io {a : Word} {r : IoReg} (h : regionOf a = .io r) :
    0xFF00 ≤ a.toNat ∧ a.toNat ≤ 0xFF7F ∧ r = ioRegOf (a.toNat - 0xFF00) := by
  unfold regionOf at h
  simp only at h
  repeat' split at h
  all_goals first
    | (simp only [reduceCtorEq] at h)
    | (have hr := Region.io.inj h; exact ⟨by omega, by omega, hr.symm⟩)

/-- The region of a plain address is neither OAM nor an I/O register. -/
theorem regionOf_plain {a : Word} (h : plainAddr a) :
    (∀ k, regionOf a ≠ .oam k) ∧ ∀ r, regionOf a ≠ .io r := by
  unfold plainAddr at h
  refine ⟨fun k hk => ?_, fun r hr => ?_⟩
  · have := regionOf_oam hk; omega
  · have := regionOf_io hr; omega

/-- A tick changes nothing the bus reads at a plain address. -/
theorem busRead_tick {a : Word} (h : plainAddr a) : busRead (tick s) a = busRead s a := by
  obtain ⟨h1, h2⟩ := regionOf_plain h
  unfold busRead
  by_cases hb : a.toNat ≤ 0xFF ∧ s.bootDisabled = false
  · rw [if_pos hb, if_pos (by exact hb)]; rfl
  · rw [if_neg hb, if_neg (by exact hb)]
    cases hr : regionOf a with
    | oam k => exact absurd hr (h1 k)
    | io r => exact absurd hr (h2 r)
    | _ => rfl

theorem busRead_ticks {a : Word} (h : plainAddr a) (n : Nat) : busRead (ticks n s) a = busRead s a := by
  induction n generalizing s with
  | zero => rfl
  | succ n ih => simp only [ticks, ih, busRead_tick s h]

/-- At a plain address a read gives what the bus shows, whatever the tick phase. -/
theorem memRead_plain {a : Word} (h : plainAddr a) : memRead s a = (busRead s a, tick s) := by
  unfold memRead transferState
  cases s.cfg.phase <;> simp [busRead_tick s h]

/-- A tick changes no store's target but OAM's. -/
theorem storeLoc_tick {a : Word} (h : ∀ k, regionOf a ≠ .oam k) : storeLoc (tick s) a = storeLoc s a := by
  unfold storeLoc
  cases hr : regionOf a with
  | oam k => exact absurd hr (h k)
  | io r => cases r <;> rfl
  | _ => rfl

/-- A memory write stores its byte where the transfer's state says, and changes no other byte outside OAM. -/
theorem memWrite_byteAt (a : Word) (v : Byte) {l : Loc} (h : l.plain) :
    (memWrite s a v).byteAt l = if storeLoc (transferState s) a = some l then v else s.byteAt l := by
  unfold memWrite transferState
  cases s.cfg.phase <;> simp [busWrite_byteAt, tick_byteAt _ h]

/-- The fields of the machine a tick cannot change, together. -/
theorem tick_frame : (tick s).cpu = s.cpu ∧ (tick s).ie = s.ie ∧ (tick s).bootDisabled = s.bootDisabled ∧
    (tick s).cart = s.cart ∧ (tick s).serial = s.serial ∧ (tick s).cfg = s.cfg :=
  ⟨rfl, rfl, rfl, rfl, rfl, rfl⟩

end Sys2Proof.Machine
end

