-- ==== Sys2Proof/Laws/Audio.lean ====
section
/-! SUPPORT. Every tick and every register write keep the audio unit's invariant (spec/63_audio.md R613). -/

namespace Sys2Proof.Machine

theorem periodOf_lt (a b : Byte) : periodOf a b < 2048 := by
  unfold periodOf
  have := a.isLt
  omega

theorem fieldNat_lt (v : Byte) (lo len : Nat) : fieldNat v lo len < 2 ^ len := BitVec.isLt _

theorem clockLen_spec (n : Byte) (len : Nat) (act : Bool) :
    (clockLen n len act).1 ≤ len ∧ ((clockLen n len act).2 = true → act = true) := by
  unfold clockLen
  split
  · exact ⟨by simp only; omega, fun h => by simp only [Bool.and_eq_true] at h; exact h.1⟩
  · exact ⟨Nat.le_refl _, id⟩

theorem clockEnv_spec (n : Byte) (vol t : Nat) (hv : vol ≤ 15) (ht : t ≤ 7) :
    (clockEnv n vol t).1 ≤ 15 ∧ (clockEnv n vol t).2 ≤ 7 := by
  have hp := fieldNat_lt n 0 3
  unfold clockEnv
  extract_lets pace t'
  split_ifs <;> refine ⟨?_, ?_⟩ <;> simp only <;> omega

/-! ## A square channel -/

theorem Square.Inv.tick {q : Square} (h : q.Inv) : (squareTick q).Inv := by
  obtain ⟨h1, h2, h3, h4, h5, h6⟩ := h
  unfold squareTick
  split
  · exact ⟨h1, h2, h3, periodOf_lt _ _, Nat.mod_lt _ (by decide), h6⟩
  · exact ⟨h1, h2, h3, by simp only; omega, h5, h6⟩

theorem Square.Inv.clockLength {q : Square} (h : q.Inv) : q.clockLength.Inv := by
  obtain ⟨h1, h2, h3, h4, h5, h6⟩ := h
  have hc := clockLen_spec q.nrx4 q.len q.active
  exact ⟨hc.1.trans h1, h2, h3, h4, h5, fun ha => h6 (hc.2 ha)⟩

theorem Square.Inv.clockEnvelope {q : Square} (h : q.Inv) : q.clockEnvelope.Inv := by
  obtain ⟨h1, h2, h3, h4, h5, h6⟩ := h
  have hc := clockEnv_spec q.nrx2 q.volume q.envTimer h2 h3
  exact ⟨h1, hc.1, hc.2, h4, h5, h6⟩

theorem Square.Inv.weaken {q : Square} (h : q.Inv) {b : Bool} (hb : b = true → q.active = true) :
    ({ q with active := b } : Square).Inv := by
  obtain ⟨h1, h2, h3, h4, h5, h6⟩ := h
  exact ⟨h1, h2, h3, h4, h5, fun ha => h6 (hb ha)⟩

theorem Square.Inv.writeLen {q : Square} (h : q.Inv) (v : Byte) : (q.writeLen v).Inv := by
  obtain ⟨h1, h2, h3, h4, h5, h6⟩ := h
  exact ⟨Nat.sub_le _ _, h2, h3, h4, h5, h6⟩

theorem Square.Inv.writeEnv {q : Square} (h : q.Inv) (v : Byte) : (q.writeEnv v).Inv := by
  obtain ⟨h1, h2, h3, h4, h5, h6⟩ := h
  exact ⟨h1, h2, h3, h4, h5, fun ha => by simp only [Square.writeEnv, Bool.and_eq_true] at ha ⊢; exact ha.2⟩

theorem Square.Inv.writePeriod {q : Square} (h : q.Inv) (v : Byte) : (q.writePeriod v).Inv := by
  obtain ⟨h1, h2, h3, h4, h5, h6⟩ := h
  exact ⟨h1, h2, h3, h4, h5, h6⟩

theorem Square.Inv.trigger {q : Square} (h : q.Inv) : q.trigger.Inv := by
  have hv := fieldNat_lt q.nrx2 4 4
  have ht := fieldNat_lt q.nrx2 0 3
  refine ⟨?_, by simp only [Square.trigger]; omega, by simp only [Square.trigger]; omega, periodOf_lt _ _, by simp [Square.trigger], id⟩
  simp only [Square.trigger]
  split
  · exact Nat.le_refl _
  · exact h.len_le

theorem Square.Inv.writeControl {q : Square} (h : q.Inv) (v : Byte) : (q.writeControl v).Inv := by
  have h' : ({ q with nrx4 := v } : Square).Inv := by
    obtain ⟨h1, h2, h3, h4, h5, h6⟩ := h
    exact ⟨h1, h2, h3, h4, h5, h6⟩
  unfold Square.writeControl
  simp only
  split
  · exact h'.trigger
  · exact h'

theorem Square.Inv.setPeriod {q : Square} (h : q.Inv) (n : Nat) : (q.setPeriod n).Inv := by
  obtain ⟨h1, h2, h3, h4, h5, h6⟩ := h
  exact ⟨h1, h2, h3, h4, h5, h6⟩

/-- Whether channel 1 can only have been switched off. -/
theorem clockSweep_spec (w : Sweep) (q : Square) (hq : q.Inv) (hs : w.shadow < 2048) (ht : w.timer ≤ 8) :
    (clockSweep w q).2.Inv ∧ (clockSweep w q).1.shadow < 2048 ∧ (clockSweep w q).1.timer ≤ 8 ∧
      ((clockSweep w q).2.active = true → q.active = true) := by
  have hr : w.reload ≤ 8 := by
    have := fieldNat_lt w.nr10 4 3
    unfold Sweep.reload Sweep.pace
    split <;> omega
  unfold clockSweep
  extract_lets t w1 n q1 w2 q2
  have hq1 : q1.Inv := hq.weaken (by simp only [Bool.and_eq_true]; exact fun h => h.1)
  have ha1 : q1.active = true → q.active = true := by
    show (q.active && _) = true → _
    simp only [Bool.and_eq_true]; exact fun h => h.1
  split_ifs with hc1 hc2 hc3
  · exact ⟨hq, hs, by simp only; omega, id⟩
  · refine ⟨(hq1.setPeriod n).weaken ?_, by show n < 2048; omega, hr, ?_⟩
    · simp only [Bool.and_eq_true]; exact fun h => h.1
    · simp only [Bool.and_eq_true]; exact fun h => ha1 h.1
  · exact ⟨hq1, hs, hr, ha1⟩
  · exact ⟨hq, hs, hr, id⟩

theorem sweepTrigger_spec (w : Sweep) (q : Square) (hq : q.Inv) :
    (sweepTrigger w q).2.Inv ∧ (sweepTrigger w q).1.shadow < 2048 ∧ (sweepTrigger w q).1.timer ≤ 8 := by
  have hr : w.reload ≤ 8 := by
    have := fieldNat_lt w.nr10 4 3
    unfold Sweep.reload Sweep.pace
    split <;> omega
  unfold sweepTrigger
  refine ⟨hq.weaken ?_, periodOf_lt _ _, hr⟩
  simp only [Bool.and_eq_true]; exact fun h => h.1

/-! ## The stages of an audio tick -/

theorem clockLengths_inv {a : Audio} (h : a.Inv) : (clockLengths a).Inv := by
  obtain ⟨c1, c2, l3, t3, p3, s3, d3, l4, v4, e4, n4, d4, sh, st, fs, off⟩ := h
  have k3 := clockLen_spec a.ch3.nr34 a.ch3.len a.ch3.active
  have k4 := clockLen_spec a.ch4.nr44 a.ch4.len a.ch4.active
  have k1 := clockLen_spec a.ch1.nrx4 a.ch1.len a.ch1.active
  have k2 := clockLen_spec a.ch2.nrx4 a.ch2.len a.ch2.active
  refine ⟨c1.clockLength, c2.clockLength, k3.1.trans l3, t3, p3, s3, fun h => d3 (k3.2 h), k4.1.trans l4, v4, e4,
    n4, fun h => d4 (k4.2 h), sh, st, fs, fun ho => ?_⟩
  obtain ⟨o1, o2, o3, o4⟩ := off ho
  have no : ∀ {x y : Bool}, (x = true → y = true) → y = false → x = false := by
    intro x y h hy; cases x
    · rfl
    · rw [h rfl] at hy; cases hy
  exact ⟨no k1.2 o1, no k2.2 o2, no k3.2 o3, no k4.2 o4⟩

theorem clockSweeps_inv {a : Audio} (h : a.Inv) : (clockSweeps a).Inv := by
  obtain ⟨c1, c2, l3, t3, p3, s3, d3, l4, v4, e4, n4, d4, sh, st, fs, off⟩ := h
  obtain ⟨k1, k2, k3, k4⟩ := clockSweep_spec a.sweep a.ch1 c1 sh st
  refine ⟨k1, c2, l3, t3, p3, s3, d3, l4, v4, e4, n4, d4, k2, k3, fs, fun ho => ?_⟩
  obtain ⟨o1, o2, o3, o4⟩ := off ho
  refine ⟨?_, o2, o3, o4⟩
  cases hc : (clockSweep a.sweep a.ch1).2.active
  · exact hc
  · rw [k4 hc] at o1; cases o1

theorem clockEnvelopes_inv {a : Audio} (h : a.Inv) : (clockEnvelopes a).Inv := by
  obtain ⟨c1, c2, l3, t3, p3, s3, d3, l4, v4, e4, n4, d4, sh, st, fs, off⟩ := h
  have k := clockEnv_spec a.ch4.nr42 a.ch4.volume a.ch4.envTimer v4 e4
  exact ⟨c1.clockEnvelope, c2.clockEnvelope, l3, t3, p3, s3, d3, l4, k.1, k.2, n4, d4, sh, st, fs, off⟩

theorem frameSeqStep_inv {a : Audio} (h : a.Inv) : (frameSeqStep a).Inv := by
  unfold frameSeqStep
  extract_lets a1 a2 a3
  have h1 : a1.Inv := by
    show (if _ then _ else _ : Audio).Inv
    split
    · exact clockLengths_inv h
    · exact h
  have h2 : a2.Inv := by
    show (if _ then _ else _ : Audio).Inv
    split
    · exact clockSweeps_inv h1
    · exact h1
  have h3 : a3.Inv := by
    show (if _ then _ else _ : Audio).Inv
    split
    · exact clockEnvelopes_inv h2
    · exact h2
  obtain ⟨c1, c2, l3, t3, p3, s3, d3, l4, v4, e4, n4, d4, sh, st, fs, off⟩ := h3
  exact ⟨c1, c2, l3, t3, p3, s3, d3, l4, v4, e4, n4, d4, sh, st, Nat.mod_lt _ (by decide), off⟩

theorem frameSeqEdge_inv (d : BitVec 16) {a : Audio} (h : a.Inv) : (frameSeqEdge d a).Inv := by
  unfold frameSeqEdge
  extract_lets b a1
  have h1 : a1.Inv := by
    show (if _ then _ else _ : Audio).Inv
    split
    · exact frameSeqStep_inv h
    · exact h
  obtain ⟨c1, c2, l3, t3, p3, s3, d3, l4, v4, e4, n4, d4, sh, st, fs, off⟩ := h1
  exact ⟨c1, c2, l3, t3, p3, s3, d3, l4, v4, e4, n4, d4, sh, st, fs, off⟩

/-- What a wave tick keeps. -/
theorem waveTick_spec (w : Wave) (ht : w.timer < 2048) (hp : w.pos < 32) (hs : w.sampleBuf < 16) :
    (waveTick w).timer < 2048 ∧ (waveTick w).pos < 32 ∧ (waveTick w).sampleBuf < 16 ∧
      (waveTick w).len = w.len ∧ (waveTick w).active = w.active ∧ (waveTick w).dac = w.dac := by
  unfold waveTick
  split
  · refine ⟨periodOf_lt _ _, Nat.mod_lt _ (by decide), ?_, rfl, rfl, rfl⟩
    simp only [waveSample]
    have := (w.table.read ((w.pos + 1) % 32 / 2)).isLt
    split <;> omega
  · exact ⟨by simp only; omega, hp, hs, rfl, rfl, rfl⟩

theorem noiseDivisor_shift_le (r s : Nat) (hs : s < 14) : noiseDivisor r <<< s ≤ 229376 := by
  have hr : noiseDivisor r ≤ 28 := by
    unfold noiseDivisor
    rcases r with _ | _ | _ | _ | _ | _ | _ | _ | r <;> simp
  rw [Nat.shiftLeft_eq]
  calc noiseDivisor r * 2 ^ s ≤ 28 * 2 ^ 13 :=
        Nat.mul_le_mul hr (Nat.pow_le_pow_right (by decide) (by omega))
    _ = 229376 := by norm_num

theorem noiseTick_spec (n : Noise) (hc : n.count < 229376) :
    (noiseTick n).count < 229376 ∧ (noiseTick n).len = n.len ∧ (noiseTick n).volume = n.volume ∧
      (noiseTick n).envTimer = n.envTimer ∧ (noiseTick n).active = n.active ∧ (noiseTick n).dac = n.dac := by
  unfold noiseTick
  extract_lets s
  by_cases h14 : 14 ≤ s
  · rw [if_pos h14]; exact ⟨hc, rfl, rfl, rfl, rfl, rfl⟩
  · rw [if_neg h14]
    have hle := noiseDivisor_shift_le (fieldNat n.nr43 0 3) s (by omega)
    split_ifs with h
    · exact ⟨by simp, rfl, rfl, rfl, rfl, rfl⟩
    · exact ⟨by simp only; omega, rfl, rfl, rfl, rfl, rfl⟩

theorem squareTick_active (q : Square) : (squareTick q).active = q.active := by
  unfold squareTick; split <;> rfl

theorem tickGenerators_inv {a : Audio} (h : a.Inv) : (tickGenerators a).Inv := by
  obtain ⟨c1, c2, l3, t3, p3, s3, d3, l4, v4, e4, n4, d4, sh, st, fs, off⟩ := h
  obtain ⟨w1, w2, w3, w4, w5, w6⟩ := waveTick_spec a.ch3 t3 p3 s3
  obtain ⟨x1, x2, x3, x4, x5, x6⟩ := waveTick_spec (waveTick a.ch3) w1 w2 w3
  obtain ⟨y1, y2, y3, y4, y5, y6⟩ := noiseTick_spec a.ch4 n4
  refine ⟨c1.tick, c2.tick, (x4.trans w4).trans_le l3, x1, x2, x3, fun h => ?_, y2.trans_le l4, y3.trans_le v4,
    y4.trans_le e4, y1, fun h => ?_, sh, st, fs, fun ho => ?_⟩
  · exact (x6.trans w6).trans (d3 ((x5.trans w5).symm.trans h))
  · exact y6.trans (d4 (y5.symm.trans h))
  · obtain ⟨o1, o2, o3, o4⟩ := off ho
    exact ⟨(squareTick_active _).trans o1, (squareTick_active _).trans o2, (x5.trans w5).trans o3, y5.trans o4⟩

/-- The audio stage of a tick keeps the invariant. -/
theorem audioTick_inv (cfg : Config) (d : BitVec 16) {a : Audio} (h : a.Inv) : (audioTick cfg d a).1.Inv := by
  have h1 := tickGenerators_inv (frameSeqEdge_inv d h)
  unfold audioTick sampleOut
  obtain ⟨c1, c2, l3, t3, p3, s3, d3, l4, v4, e4, n4, d4, sh, st, fs, off⟩ := h1
  split
  · exact ⟨c1, c2, l3, t3, p3, s3, d3, l4, v4, e4, n4, d4, sh, st, fs, off⟩
  · exact ⟨c1, c2, l3, t3, p3, s3, d3, l4, v4, e4, n4, d4, sh, st, fs, off⟩

end Sys2Proof.Machine
end

