-- ==== Sys2Proof/Laws/Video.lean ====
section
/-! SUPPORT. Every dot keeps the video unit's invariant (spec/62_video.md R536). -/

namespace Sys2Proof.Machine

/-- What a dot's work does to the counters: it leaves `ly` and `dot`. -/
structure Video.SameCounters (v w : Video) : Prop where
  ly : w.ly = v.ly
  dot : w.dot = v.dot

theorem scanEntry_eq (oam : Memory) (i : Nat) (v : Video) :
    ∃ l, scanEntry oam i v = { v with objList := l } ∧ (v.objList.length ≤ 10 → l.length ≤ 10) := by
  unfold scanEntry
  extract_lets y x h
  by_cases hc : v.objList.length < 10 ∧ y ≤ v.ly + 16 ∧ v.ly + 16 < y + h
  · rw [if_pos hc]
    exact ⟨_, rfl, fun _ => by rw [List.length_append]; have := hc.1; simpa using this⟩
  · rw [if_neg hc]
    exact ⟨v.objList, rfl, id⟩

theorem drawObjPixel_length (x : Nat) (attr lo hi : Byte) (line : List ObjPixel) (c : Nat) :
    (drawObjPixel x attr lo hi line c).length = line.length := by
  unfold drawObjPixel
  extract_lets sx col old
  split_ifs
  · rfl
  · exact List.length_set
  · rfl

theorem drawObj_length (vram oam : Memory) (ly : Nat) (line : List ObjPixel) (o : ObjEntry) :
    (drawObj vram oam ly line o).length = line.length := by
  unfold drawObj
  simp only [List.foldl_cons, List.foldl_nil, drawObjPixel_length]

theorem buildObjLine_eq (vram oam : Memory) (v : Video) :
    ∃ l, buildObjLine vram oam v = { v with objLine := l } ∧ l.length = 160 := by
  refine ⟨_, rfl, ?_⟩
  suffices h : ∀ (os : List ObjEntry) (line : List ObjPixel),
      (os.foldl (drawObj vram oam v.ly) line).length = line.length from
    (h _ _).trans List.length_replicate
  intro os
  induction os with
  | nil => intro line; rfl
  | cons o os ih => intro line; rw [List.foldl_cons, ih, drawObj_length]

/-! ## The pixel pipeline -/

/-- The pipeline's part of the invariant, for a unit in mode 3, with `b` the bound on what is left. -/
structure Video.Pipe (b : Nat) (v : Video) : Prop where
  left_le : v.remaining ≤ b
  lx_lt : v.lx < 160
  fill : v.fifo ≠ [] → v.fifo.length + v.fstep = 7
  fstep_le : v.fstep ≤ 6
  discard_le : v.discard ≤ 7
  startup_le : v.startup ≤ 6

/-- What a fetcher step changes. -/
structure Video.SameButFetcher (v w : Video) : Prop where
  counters : v.SameCounters w
  mode : w.mode = v.mode
  lx : w.lx = v.lx
  discard : w.discard = v.discard
  startup : w.startup = v.startup
  inWindow : w.inWindow = v.inWindow
  objList : w.objList = v.objList
  objLine : w.objLine = v.objLine

/-- A fetcher step: after it either the FIFO still waits and is one step nearer, or it holds pixels and
`length + fstep` is 8 before the pop. -/
theorem fetcherDot_spec (vram : Memory) (v : Video) (hf : v.fifo ≠ [] → v.fifo.length + v.fstep = 7)
    (hs : v.fstep ≤ 6) :
    v.SameButFetcher (fetcherDot vram v) ∧
    ((fetcherDot vram v).fifo = [] ∧ v.fifo = [] ∧ v.fstep < 6 ∧ (fetcherDot vram v).fstep = v.fstep + 1 ∨
      (fetcherDot vram v).fifo ≠ [] ∧ (v.fifo ≠ [] ∨ v.fstep = 6) ∧ (fetcherDot vram v).fstep ≤ 6 ∧
        ((fetcherDot vram v).fifo.length + (fetcherDot vram v).fstep = 8 ∨
          (fetcherDot vram v).fifo.length = 1 ∧ (fetcherDot vram v).fstep = 6)) := by
  unfold fetcherDot
  simp only
  generalize hw : (if v.fstep = 1 then { v with tile := vram.read (mapAddr v) }
    else if v.fstep = 3 then { v with lo := vram.read (tileRowAddr v v.tile) }
    else if v.fstep = 5 then { v with hi := vram.read (tileRowAddr v v.tile + 1) } else v) = w
  have hv : v.SameButFetcher w ∧ w.fifo = v.fifo ∧ w.fstep = v.fstep := by
    subst hw
    split
    · exact ⟨⟨⟨rfl, rfl⟩, rfl, rfl, rfl, rfl, rfl, rfl, rfl⟩, rfl, rfl⟩
    · split
      · exact ⟨⟨⟨rfl, rfl⟩, rfl, rfl, rfl, rfl, rfl, rfl, rfl⟩, rfl, rfl⟩
      · split
        · exact ⟨⟨⟨rfl, rfl⟩, rfl, rfl, rfl, rfl, rfl, rfl, rfl⟩, rfl, rfl⟩
        · exact ⟨⟨⟨rfl, rfl⟩, rfl, rfl, rfl, rfl, rfl, rfl, rfl⟩, rfl, rfl⟩
  obtain ⟨⟨⟨h1, h2⟩, h3, h4, h5, h6, h7, h8, h9⟩, hwf, hws⟩ := hv
  split
  · next hlt =>
    refine ⟨⟨⟨h1, h2⟩, h3, h4, h5, h6, h7, h8, h9⟩, ?_⟩
    by_cases he : v.fifo = []
    · exact .inl ⟨by simp [hwf, he], he, by omega, by simp [hws]⟩
    · refine .inr ⟨by simpa [hwf] using he, .inl he, by simp only; omega, .inl ?_⟩
      have := hf he
      simp only [hwf, hws]; omega
  · next hge =>
    split
    · next he =>
      refine ⟨⟨⟨h1, h2⟩, h3, h4, h5, h6, h7, h8, h9⟩, .inr ⟨?_, ?_, ?_, ?_⟩⟩
      · simp [tileRow]
      · exact .inr (by omega)
      · simp
      · exact .inl (by simp [tileRow])
    · next b rest he =>
      have hne : v.fifo ≠ [] := by rw [← hwf, he]; simp
      have := hf hne
      refine ⟨⟨⟨h1, h2⟩, h3, h4, h5, h6, h7, h8, h9⟩, .inr ⟨by simp [he], .inl hne, by omega, .inr ⟨?_, by omega⟩⟩⟩
      rw [hwf]; omega

/-- What one mode-3 dot keeps: the counters and the object buffers. -/
structure Video.DotFrame (v w : Video) : Prop where
  counters : v.SameCounters w
  objList : w.objList = v.objList
  objLine : w.objLine = v.objLine

theorem takePixel_cases (b : BitVec 2) (v : Video) :
    (0 < v.discard ∧ (takePixel b v).1 = { v with discard := v.discard - 1 }) ∨
      (v.discard = 0 ∧ (takePixel b v).1 = { v with lx := v.lx + 1 }) := by
  unfold takePixel
  split
  · next h => exact .inl ⟨h, rfl⟩
  · exact .inr ⟨by omega, rfl⟩

/-- One mode-3 dot brings the end of mode 3 one dot nearer. -/
theorem mode3Dot_spec (vram : Memory) (v : Video) {b : Nat} (hm : v.mode = .transfer) (hp : v.Pipe (b + 1)) :
    v.DotFrame (mode3Dot vram v).1 ∧
    ((mode3Dot vram v).1.mode = .transfer ∧ (mode3Dot vram v).1.Pipe b ∨
      (mode3Dot vram v).1.mode = .hblank ∧ (mode3Dot vram v).1.lx = 160 ∧
        ((mode3Dot vram v).1.fifo ≠ [] →
          (mode3Dot vram v).1.fifo.length + (mode3Dot vram v).1.fstep = 7) ∧
        (mode3Dot vram v).1.fstep ≤ 6 ∧ (mode3Dot vram v).1.discard ≤ 7 ∧ (mode3Dot vram v).1.startup ≤ 6) := by
  obtain ⟨hl, hx, hf, hs, hd, hu⟩ := hp
  unfold mode3Dot
  split
  · next h0 =>
    refine ⟨⟨⟨rfl, rfl⟩, rfl, rfl⟩, .inl ⟨hm, ⟨?_, hx, hf, hs, hd, by show v.startup - 1 ≤ 6; omega⟩⟩⟩
    unfold Video.remaining at hl ⊢
    simp only
    omega
  · next h0 =>
    -- the unit after the window test
    generalize hw : (if windowStarts v = true then enterWindow v else v) = w
    have hwin : v.SameCounters w ∧ w.objList = v.objList ∧ w.objLine = v.objLine ∧ w.mode = v.mode ∧
        w.lx = v.lx ∧ w.startup = v.startup ∧ w.remaining ≤ b + 1 ∧
        (w.fifo ≠ [] → w.fifo.length + w.fstep = 7) ∧ w.fstep ≤ 6 ∧ w.discard ≤ 7 := by
      subst hw
      split
      · next hws =>
        have hin : v.inWindow = false := by
          simp only [windowStarts, Bool.and_eq_true, Bool.not_eq_true'] at hws
          exact hws.1.1.1
        refine ⟨⟨rfl, rfl⟩, rfl, rfl, rfl, rfl, rfl, ?_, ?_, ?_, ?_⟩
        · unfold Video.remaining at hl ⊢
          simp only [enterWindow, hin, Bool.false_eq_true, if_false, if_true] at hl ⊢
          split <;> omega
        · simp [enterWindow]
        · simp [enterWindow]
        · simp only [enterWindow]; split <;> omega
      · exact ⟨⟨rfl, rfl⟩, rfl, rfl, rfl, rfl, rfl, hl, hf, hs, hd⟩
    obtain ⟨⟨c1, c2⟩, o1, o2, wm, wx, wu, wl, wf, wss, wd⟩ := hwin
    obtain ⟨⟨⟨d1, d2⟩, fm, fx, fd, fu, fi, p1, p2⟩, hcase⟩ := fetcherDot_spec vram w wf wss
    generalize fetcherDot vram w = u at *
    unfold popPixel
    rcases hcase with ⟨e1, e2, e3, e4⟩ | ⟨e1, e2, e3, e4⟩
    · rw [e1]
      simp only
      refine ⟨⟨⟨d1.trans c1, d2.trans c2⟩, p1.trans o1, p2.trans o2⟩, .inl ⟨(fm.trans wm).trans hm, ⟨?_, by omega, ?_, by omega, by omega, by omega⟩⟩⟩
      · unfold Video.remaining at wl ⊢
        simp only [e1, e2, if_true, fi, fx, fd, fu] at wl ⊢
        omega
      · simp [e1]
    · obtain ⟨x, rest, hfifo⟩ := List.exists_cons_of_ne_nil e1
      rw [hfifo]
      simp only
      have hlen : rest.length + 1 = u.fifo.length := by rw [hfifo]; rfl
      have hrest : rest ≠ [] → rest.length + u.fstep = 7 := by
        intro hr
        have : 0 < rest.length := List.length_pos_of_ne_nil hr
        rcases e4 with e4 | ⟨e4, e5⟩ <;> omega
      have hzero : rest = [] → u.fstep = 6 ∨ False := by
        intro hr
        have : rest.length = 0 := by rw [hr]; rfl
        rcases e4 with e4 | ⟨e4, e5⟩
        · omega
        · exact .inl e5
      have hwait : (if rest = [] then 6 - u.fstep else 0) = 0 := by
        split
        · next hr => rcases hzero hr with h | h
                     · omega
                     · exact h.elim
        · rfl
      have hbefore : (if w.fifo = [] then 6 - w.fstep else 0) = 0 := by
        split
        · next hr =>
          rcases e2 with h | h
          · exact absurd hr h
          · omega
        · rfl
      rcases takePixel_cases x { u with fifo := rest } with ⟨ht, he⟩ | ⟨ht, he⟩ <;> rw [he]
      · simp only at ht
        have hne : ¬(u.lx = 160) := by omega
        simp only [endTransfer, if_neg hne]
        refine ⟨⟨⟨d1.trans c1, d2.trans c2⟩, p1.trans o1, p2.trans o2⟩, .inl ⟨(fm.trans wm).trans hm, ⟨?_, by simp only; omega, hrest, e3, by simp only; omega, by simp only; omega⟩⟩⟩
        unfold Video.remaining at wl ⊢
        simp only [hwait, hbefore, fi, fx, fu] at wl ⊢
        omega
      · simp only at ht
        by_cases hend : u.lx + 1 = 160
        · simp only [endTransfer, if_pos hend]
          exact ⟨⟨⟨d1.trans c1, d2.trans c2⟩, p1.trans o1, p2.trans o2⟩, .inr ⟨trivial, hend, hrest, e3, by omega, by omega⟩⟩
        · simp only [endTransfer, if_neg hend]
          refine ⟨⟨⟨d1.trans c1, d2.trans c2⟩, p1.trans o1, p2.trans o2⟩, .inl ⟨(fm.trans wm).trans hm, ⟨?_, by simp only; omega, hrest, e3, by simp only; omega, by simp only; omega⟩⟩⟩
          unfold Video.remaining at wl ⊢
          simp only [hwait, hbefore, fi, fx, fu] at wl ⊢
          omega

/-! ## A whole dot -/

/-- What holds between a dot's work and the counters' move, `dot` being the dot just executed. -/
structure Video.AfterWork (v : Video) : Prop where
  ly_lt : v.ly < 154
  dot_lt : v.dot < 456
  vblank : 144 ≤ v.ly → v.mode = .vblank
  scan : v.ly < 144 → v.dot < 80 → v.mode = .oamScan
  draw : v.ly < 144 → 80 ≤ v.dot →
    v.mode = .transfer ∧ v.dot + 1 + v.remaining ≤ 272 ∧ v.lx < 160 ∨ v.mode = .hblank
  fill : v.fifo ≠ [] → v.fifo.length + v.fstep = 7
  fstep_le : v.fstep ≤ 6
  lx_le : v.lx ≤ 160
  discard_le : v.discard ≤ 7
  startup_le : v.startup ≤ 6
  objects_le : v.objList.length ≤ 10
  line_length : v.objLine = [] ∨ v.objLine.length = 160

/-- A mode-3 dot of a visible line gives what `AfterWork` asks. -/
theorem afterWork_mode3 (vram : Memory) {v : Video} (hly : v.ly < 144) (h80 : 80 ≤ v.dot) (hdot : v.dot < 272)
    (hm : v.mode = .transfer) (hp : v.Pipe (271 - v.dot + 1)) (ho : v.objList.length ≤ 10)
    (hl : v.objLine = [] ∨ v.objLine.length = 160) : (mode3Dot vram v).1.AfterWork := by
  obtain ⟨⟨⟨c1, c2⟩, o1, o2⟩, h⟩ := mode3Dot_spec vram v hm hp
  generalize (mode3Dot vram v).1 = w at *
  rcases h with ⟨hm', hp'⟩ | ⟨hm', hx, hf, hs, hd, hu⟩
  · obtain ⟨q1, q2, q3, q4, q5, q6⟩ := hp'
    exact ⟨by omega, by omega, by omega, by omega, fun _ _ => .inl ⟨hm', by omega, q2⟩, q3, q4, by omega, q5, q6,
      by rw [o1]; exact ho, by rw [o2]; exact hl⟩
  · exact ⟨by omega, by omega, by omega, by omega, fun _ _ => .inr hm', hf, hs, by omega, hd, hu,
      by rw [o1]; exact ho, by rw [o2]; exact hl⟩

/-- The work of a dot. -/
theorem dotWork_afterWork (vram oam : Memory) {v : Video} (h : v.Inv) : (dotWork vram oam v).1.AfterWork := by
  obtain ⟨h1, h2, h3, h4, h5, h6, h7, h8, h9, h10, h11, h12, h13, h14, h15⟩ := h
  unfold dotWork
  by_cases hly : v.ly < 144
  · rw [if_pos hly]
    by_cases hd : v.dot < 80
    · rw [if_pos hd]
      simp only
      have hscan : ∀ w : Video, w.ly = v.ly → w.dot = v.dot → w.mode = .oamScan → w.fifo = v.fifo →
          w.fstep = v.fstep → w.lx = v.lx → w.discard = v.discard → w.startup = v.startup →
          w.objList.length ≤ 10 → w.objLine = v.objLine → w.AfterWork := by
        intro w e1 e2 e3 e4 e5 e6 e7 e8 e9 e10
        exact ⟨by omega, by omega, by omega, fun _ _ => e3, by omega, by rw [e4, e5]; exact h9, by omega, by omega,
          by omega, by omega, e9, by rw [e10]; exact h15⟩
      have hv1 : ∃ l : List ObjEntry, (if v.dot = 0 then { v with mode := .oamScan, objList := [] } else v) =
          { v with mode := .oamScan, objList := l } ∧ l.length ≤ 10 := by
        by_cases h0 : v.dot = 0
        · rw [if_pos h0]; exact ⟨[], rfl, by simp⟩
        · rw [if_neg h0]
          refine ⟨v.objList, ?_, h14⟩
          have hm := h6 hly (by omega) (by omega)
          cases v
          simp only at hm
          subst hm
          rfl
      obtain ⟨l, hl, hlen⟩ := hv1
      rw [hl]
      by_cases hpar : v.dot % 2 = 0
      · rw [if_pos hpar]
        obtain ⟨l', hl', hlen'⟩ := scanEntry_eq oam (v.dot / 2) { v with mode := .oamScan, objList := l }
        rw [hl']
        exact hscan _ rfl rfl rfl rfl rfl rfl rfl rfl (hlen' hlen) rfl
      · rw [if_neg hpar]
        exact hscan _ rfl rfl rfl rfl rfl rfl rfl rfl hlen rfl
    · rw [if_neg hd]
      by_cases h80 : v.dot = 80
      · rw [if_pos h80]
        obtain ⟨l, hl, hlen⟩ := buildObjLine_eq vram oam { v with mode := .transfer }
        rw [hl]
        refine afterWork_mode3 vram hly (by show 80 ≤ v.dot; omega) (by show v.dot < 272; omega) rfl ?_ h14 (.inr hlen)
        refine ⟨?_, (by decide : 0 < 160), fun hf => absurd rfl hf, (by decide : 0 ≤ 6), ?_, (by decide : 6 ≤ 6)⟩
        · unfold Video.remaining pipelineInit
          simp only [if_true, Bool.false_eq_true, if_false]
          omega
        · show v.scx.toNat % 8 ≤ 7
          omega
      · rw [if_neg h80]
        by_cases hm : v.mode = .transfer
        · rw [if_pos hm]
          have hr : 160 - v.lx ≤ v.remaining := by unfold Video.remaining; omega
          have := h7 hm
          have := h8 hm
          exact afterWork_mode3 vram hly (by omega) (by omega) hm ⟨by omega, by omega, h9, h10, h12, h13⟩ h14 h15
        · rw [if_neg hm]
          have hb : v.mode = .hblank := by
            cases hmode : v.mode with
            | hblank => rfl
            | vblank => have := h4 hmode; omega
            | oamScan => have := h5 hmode; omega
            | transfer => exact absurd hmode hm
          exact ⟨h1, h2, h3, fun _ hh => absurd hh (by omega), fun _ _ => .inr hb, h9, h10, h11, h12, h13, h14, h15⟩
  · rw [if_neg hly]
    exact ⟨h1, h2, h3, fun hh => absurd hh hly, fun hh => absurd hh hly, h9, h10, h11, h12, h13, h14, h15⟩

/-- The counters' move. -/
theorem advanceDot_inv {v : Video} (h : v.AfterWork) : (advanceDot v).video.Inv := by
  obtain ⟨h1, h2, h3, h4, h5, h9, h10, h11, h12, h13, h14, h15⟩ := h
  unfold advanceDot
  by_cases hd : v.dot + 1 = 456
  · rw [if_pos hd]
    have hmode : v.ly < 144 → v.mode = .hblank := by
      intro hly
      rcases h5 hly (by omega) with ⟨_, hr, _⟩ | hb
      · omega
      · exact hb
    unfold endOfLine
    simp only
    split
    · next he =>
      exact ⟨by simp, by simp, fun _ => rfl, fun _ => .inl (Nat.le_refl _), by simp, fun h => absurd h (by simp),
        by simp, by simp, h9, h10, h11, h12, h13, h14, h15⟩
    · split
      · next he =>
        have hv : v.mode = .vblank := h3 (by omega)
        exact ⟨by simp, by simp, fun h => absurd h (by simp), fun _ => .inr ⟨rfl, rfl⟩, by simp [hv],
          by simp, by simp [hv], by simp [hv], h9, h10, h11, h12, h13, h14, h15⟩
      · next hn1 hn2 =>
        refine ⟨by simp only; omega, by simp, ?_, ?_, ?_, by simp, ?_, ?_, h9, h10, h11, h12, h13, h14, h15⟩
        · intro hl; simp only at hl ⊢; exact h3 (by omega)
        · intro hv
          simp only at hv ⊢
          by_cases hly : v.ly < 144
          · rw [hmode hly] at hv; cases hv
          · exact .inl (by omega)
        · intro hv
          simp only at hv
          by_cases hly : v.ly < 144
          · rw [hmode hly] at hv; cases hv
          · rw [h3 (by omega)] at hv; cases hv
        · intro hv
          simp only at hv
          by_cases hly : v.ly < 144
          · rw [hmode hly] at hv; cases hv
          · rw [h3 (by omega)] at hv; cases hv
        · intro hv
          simp only at hv
          by_cases hly : v.ly < 144
          · rw [hmode hly] at hv; cases hv
          · rw [h3 (by omega)] at hv; cases hv
  · rw [if_neg hd]
    refine ⟨h1, by simp only; omega, h3, ?_, ?_, ?_, ?_, ?_, h9, h10, h11, h12, h13, h14, h15⟩
    · intro hv
      simp only at hv ⊢
      by_cases hly : v.ly < 144
      · by_cases h80 : v.dot < 80
        · rw [h4 hly h80] at hv; cases hv
        · rcases h5 hly (by omega) with ⟨hm, _⟩ | hm <;> · rw [hm] at hv; cases hv
      · exact .inl (by omega)
    · intro hv
      simp only at hv ⊢
      by_cases hly : v.ly < 144
      · by_cases h80 : v.dot < 80
        · omega
        · rcases h5 hly (by omega) with ⟨hm, _⟩ | hm <;> · rw [hm] at hv; cases hv
      · rw [h3 (by omega)] at hv; cases hv
    · intro hly h0 h80
      simp only at *
      exact h4 hly (by omega)
    · intro hv
      simp only at hv ⊢
      by_cases hly : v.ly < 144
      · by_cases h80 : v.dot < 80
        · rw [h4 hly h80] at hv; cases hv
        · rcases h5 hly (by omega) with ⟨_, hr, _⟩ | hm
          · exact ⟨by omega, by unfold Video.remaining at *; simp only; omega⟩
          · rw [hm] at hv; cases hv
      · rw [h3 (by omega)] at hv; cases hv
    · intro hv
      simp only at hv ⊢
      by_cases hly : v.ly < 144
      · by_cases h80 : v.dot < 80
        · rw [h4 hly h80] at hv; cases hv
        · rcases h5 hly (by omega) with ⟨_, _, hx⟩ | hm
          · exact hx
          · rw [hm] at hv; cases hv
      · rw [h3 (by omega)] at hv; cases hv

/-- Registers and the STAT latch play no part in the invariant. -/
theorem Video.Inv.congr {v w : Video} (h : v.Inv) (e1 : w.ly = v.ly) (e2 : w.dot = v.dot) (e3 : w.mode = v.mode)
    (e4 : w.fifo = v.fifo) (e5 : w.fstep = v.fstep) (e6 : w.lx = v.lx) (e7 : w.discard = v.discard)
    (e8 : w.startup = v.startup) (e9 : w.inWindow = v.inWindow) (e10 : w.objList = v.objList)
    (e11 : w.objLine = v.objLine) : w.Inv := by
  have hr : w.remaining = v.remaining := by unfold Video.remaining; rw [e4, e5, e6, e7, e8, e9]
  obtain ⟨h1, h2, h3, h4, h5, h6, h7, h8, h9, h10, h11, h12, h13, h14, h15⟩ := h
  constructor <;> simp only [e1, e2, e3, e4, e5, e6, e7, e8, e10, e11, hr] <;> assumption

/-- One dot keeps the invariant. -/
theorem videoDot_inv (vram oam : Memory) {e : VideoEffect} (h : e.video.Inv) : (videoDot vram oam e).video.Inv :=
  (advanceDot_inv (dotWork_afterWork vram oam h)).congr rfl rfl rfl rfl rfl rfl rfl rfl rfl rfl rfl

/-- The video stage of a tick keeps the invariant. -/
theorem videoTick_inv (vram oam : Memory) {v : Video} (h : v.Inv) : (videoTick vram oam v).video.Inv := by
  unfold videoTick
  simp only
  split
  · exact videoDot_inv _ _ (videoDot_inv _ _ (videoDot_inv _ _ (videoDot_inv _ _ h)))
  · exact h

end Sys2Proof.Machine
end

