-- ==== Sys2Proof/Laws/Counters.lean ====
section
/-! SUPPORT. What a dot's work leaves alone (the frame position, the STAT latch, the frame signal), and which
request bits each stage of a tick can set. -/

namespace Sys2Proof.Machine

/-- A dot's work moves neither counter nor the STAT latch. -/
def Video.SameFrame (v w : Video) : Prop := w.ly = v.ly ∧ w.dot = v.dot ∧ w.statLine = v.statLine

theorem Video.SameFrame.trans {u v w : Video} (h : u.SameFrame v) (k : v.SameFrame w) : u.SameFrame w :=
  ⟨k.1.trans h.1, k.2.1.trans h.2.1, k.2.2.trans h.2.2⟩

theorem scanEntry_frame (oam : Memory) (i : Nat) (v : Video) : v.SameFrame (scanEntry oam i v) := by
  unfold scanEntry; extract_lets _ _ _; split <;> exact ⟨rfl, rfl, rfl⟩

theorem fetcherDot_frame (vram : Memory) (v : Video) : v.SameFrame (fetcherDot vram v) := by
  unfold fetcherDot
  extract_lets v1
  have h : v.SameFrame v1 := by
    simp only [v1]
    split
    · exact ⟨rfl, rfl, rfl⟩
    · split
      · exact ⟨rfl, rfl, rfl⟩
      · split <;> exact ⟨rfl, rfl, rfl⟩
  split
  · exact h.trans ⟨rfl, rfl, rfl⟩
  · split
    · exact h.trans ⟨rfl, rfl, rfl⟩
    · exact h

theorem popPixel_frame (v : Video) :
    v.SameFrame (popPixel v).1 ∧ OutEvent.frameComplete ∉ (popPixel v).2 := by
  unfold popPixel
  split
  · exact ⟨⟨rfl, rfl, rfl⟩, by simp⟩
  · simp only [takePixel, endTransfer]
    split <;> exact ⟨⟨rfl, rfl, rfl⟩, by simp⟩

theorem mode3Dot_frame (vram : Memory) (v : Video) :
    v.SameFrame (mode3Dot vram v).1 ∧ OutEvent.frameComplete ∉ (mode3Dot vram v).2 := by
  unfold mode3Dot
  split
  · exact ⟨⟨rfl, rfl, rfl⟩, by simp⟩
  · refine ⟨Video.SameFrame.trans ?_ (popPixel_frame _).1, (popPixel_frame _).2⟩
    refine Video.SameFrame.trans ?_ (fetcherDot_frame _ _)
    split <;> exact ⟨rfl, rfl, rfl⟩

/-- A dot's work before the counters move. -/
theorem dotWork_frame (vram oam : Memory) (v : Video) :
    v.SameFrame (dotWork vram oam v).1 ∧ OutEvent.frameComplete ∉ (dotWork vram oam v).2 := by
  unfold dotWork
  split
  · split
    · simp only
      refine ⟨?_, by simp⟩
      split <;> split
      · exact Video.SameFrame.trans ⟨rfl, rfl, rfl⟩ (scanEntry_frame ..)
      · exact scanEntry_frame ..
      · exact ⟨rfl, rfl, rfl⟩
      · exact ⟨rfl, rfl, rfl⟩
    · split
      · exact ⟨Video.SameFrame.trans ⟨rfl, rfl, rfl⟩ (mode3Dot_frame ..).1, (mode3Dot_frame ..).2⟩
      · split
        · exact mode3Dot_frame ..
        · exact ⟨⟨rfl, rfl, rfl⟩, by simp⟩
  · exact ⟨⟨rfl, rfl, rfl⟩, by simp⟩

/-! ## Which request bits each stage can set -/

theorem tick_ifl_eq (s : State) :
    (tick s).ifl = ((s.ifl ||| (videoTick s.vram s.oam s.video).irq) ||| timerIrq s.timer) |||
      joypadIrq s.joypad.lines (pollLines s.cfg s.tickCount s.joypad.sel) := rfl

/-- STAT requests bit 1 only, on a rising signal. -/
theorem statIrq_bit (v : Video) (k : Nat) :
    (statIrq v).getLsbD k = (decide (k = 1) && (statSignal v && !v.statLine)) := by
  unfold statIrq
  split
  · next h =>
    rw [h, Bool.and_true]
    rcases k with _ | _ | _ | _ | _ | k <;> first | decide | simp
  · next h => simp only [Bool.not_eq_true] at h; rw [h]; simp

/-- The timer requests bit 2 only, on an overflow. -/
theorem timerIrq_bit (t : Timer) (k : Nat) :
    (timerIrq t).getLsbD k = (decide (k = 2) && (timerFalls (countDivider t) && t.tima == 0xFF)) := by
  unfold timerIrq
  split
  · next h =>
    rw [h, Bool.and_true]
    rcases k with _ | _ | _ | _ | _ | k <;> first | decide | (rw [BitVec.getLsbD_of_ge _ _ (by omega)]; simp)
  · next h => simp only [Bool.not_eq_true] at h; rw [h]; simp

/-- The joypad requests bit 4 only, when a line goes from released to pressed. -/
theorem joypadIrq_bit (a b : BitVec 4) (k : Nat) :
    (joypadIrq a b).getLsbD k = (decide (k = 4) && (a &&& ~~~b != 0)) := by
  unfold joypadIrq
  split
  · next h =>
    rw [h, Bool.and_true]
    rcases k with _ | _ | _ | _ | _ | k <;> first | decide | (rw [BitVec.getLsbD_of_ge _ _ (by omega)]; simp)
  · next h => simp only [Bool.not_eq_true] at h; rw [h]; simp

/-- The line counter's move requests bit 0 only, at line 144. -/
theorem advanceDot_irq_bit (v : Video) (k : Nat) :
    (advanceDot v).irq.getLsbD k = (decide (k = 0) && (decide (v.dot + 1 = 456) && decide (v.ly + 1 = 144))) := by
  unfold advanceDot endOfLine
  simp only
  split
  · split
    · next h1 h2 =>
      rw [decide_eq_true h1, decide_eq_true h2, Bool.and_true, Bool.and_true]
      show (0b00001 : BitVec 5).getLsbD k = _
      rcases k with _ | _ | _ | _ | _ | k <;> first | decide | (rw [BitVec.getLsbD_of_ge _ _ (by omega)]; simp)
    · next h1 h2 =>
      rw [decide_eq_false h2]
      split <;> simp
  · next h1 => rw [decide_eq_false h1]; simp

theorem advanceDot_statLine (v : Video) : (advanceDot v).video.statLine = v.statLine := by
  unfold advanceDot endOfLine
  simp only
  split
  · split
    · rfl
    · split <;> rfl
  · rfl

end Sys2Proof.Machine
end

