-- ==== Sys2Proof/Laws/Exec.lean ====
section
/-! SUPPORT. The meaning of each family of instructions by its operands, and that every instruction
completes. -/

namespace Sys2Proof.Machine

variable (s : State)

/-- Every instruction answers a next state: the core has no fault and no refusal. -/
theorem exec_completes (i : Instr) : ∃ t, exec i s = .next t := by cases i <;> exact ⟨_, rfl⟩

/-- Every step answers a next state. -/
theorem step_completes : ∃ t, step s = .next t := by
  unfold step
  cases turn s with
  | done t => exact ⟨t, rfl⟩
  | run i t => exact exec_completes t i

theorem exec_ldRegReg (dst r : Reg8) : exec (.ldRegReg dst r) s = .next (ld (.reg dst) (.reg r) s) := by
  cases dst <;> cases r <;> rfl
theorem exec_ldRegInd (dst : Reg8) : exec (.ldRegInd dst) s = .next (ld (.reg dst) .indHl s) := by
  cases dst <;> rfl
theorem exec_ldIndReg (r : Reg8) : exec (.ldIndReg r) s = .next (ld .indHl (.reg r) s) := by
  cases r <;> rfl
theorem exec_ldRegImm (r : Reg8) (n : Byte) :
    exec (.ldRegImm r n) s = .next (writeOpnd (.reg r) n s) := by
  cases r <;> rfl
theorem exec_ldAFrom (p : Rpm) : exec (.ldAFrom p) s = .next (ldAPtr p s) := by cases p <;> rfl
theorem exec_ldToA (p : Rpm) : exec (.ldToA p) s = .next (ldPtrA p s) := by cases p <;> rfl
theorem exec_ldPairImm (p : Rp) (n : Word) : exec (.ldPairImm p n) s = .next (ldRp p n s) := by
  cases p <;> rfl
theorem exec_incPair (p : Rp) : exec (.incPair p) s = .next (incRp p s) := by cases p <;> rfl
theorem exec_decPair (p : Rp) : exec (.decPair p) s = .next (decRp p s) := by cases p <;> rfl
theorem exec_addHl (p : Rp) : exec (.addHl p) s = .next (addHl p s) := by cases p <;> rfl
theorem exec_push (p : Rp2) : exec (.push p) s = .next (push p s) := by cases p <;> rfl
theorem exec_pop (p : Rp2) : exec (.pop p) s = .next (pop p s) := by cases p <;> rfl
theorem exec_inc8 (o : Opnd8) : exec (.inc8 o) s = .next (incOpnd o s) := by
  rcases o with r | _
  · cases r <;> rfl
  · rfl
theorem exec_dec8 (o : Opnd8) : exec (.dec8 o) s = .next (decOpnd o s) := by
  rcases o with r | _
  · cases r <;> rfl
  · rfl
theorem exec_alu (op : AluOp) (o : Opnd8) : exec (.alu op o) s = .next (aluOpnd op o s) := by
  rcases o with r | _
  · cases op <;> cases r <;> rfl
  · cases op <;> rfl
theorem exec_aluImm (op : AluOp) (n : Byte) :
    exec (.aluImm op n) s = .next (mapCpu (Cpu.aluA op n) s) := by
  cases op <;> rfl
theorem exec_jrCond (cc : Cond) (e : Byte) : exec (.jrCond cc e) s = .next (jrIf cc e s) := by
  cases cc <;> rfl
theorem exec_jpCond (cc : Cond) (n : Word) : exec (.jpCond cc n) s = .next (jpIf cc n s) := by
  cases cc <;> rfl
theorem exec_callCond (cc : Cond) (n : Word) : exec (.callCond cc n) s = .next (callIf cc n s) := by
  cases cc <;> rfl
theorem exec_retCond (cc : Cond) : exec (.retCond cc) s = .next (retIf cc s) := by cases cc <;> rfl
theorem exec_rst (y : Fin 8) : exec (.rst y) s = .next (rst y s) := by fin_cases y <;> rfl
theorem exec_shift (op : ShiftOp) (o : Opnd8) : exec (.shift op o) s = .next (shiftOpnd op o s) := by
  rcases o with r | _
  · cases op <;> cases r <;> rfl
  · cases op <;> rfl
theorem exec_bit (b : Fin 8) (o : Opnd8) : exec (.bit b o) s = .next (bitOpnd b o s) := by
  rcases o with r | _
  · fin_cases b <;> cases r <;> rfl
  · fin_cases b <;> rfl
theorem exec_res (b : Fin 8) (o : Opnd8) : exec (.res b o) s = .next (resOpnd b o s) := by
  rcases o with r | _
  · fin_cases b <;> cases r <;> rfl
  · fin_cases b <;> rfl
theorem exec_set (b : Fin 8) (o : Opnd8) : exec (.set b o) s = .next (setOpnd b o s) := by
  rcases o with r | _
  · fin_cases b <;> cases r <;> rfl
  · fin_cases b <;> rfl

/-- A CB instruction executes as ExecuteCB of its second byte. -/
theorem exec_decodeCb (b : Byte) : exec (decodeCb b) s = .next (executeCb b s) := by
  unfold decodeCb executeCb
  rcases fieldX b with _ | _ | _ | n
  · exact exec_shift s _ _
  · exact exec_bit s _ _
  · exact exec_res s _ _
  · exact exec_set s _ _

end Sys2Proof.Machine
end

