-- ==== Sys2Proof/Laws/Frame.lean ====
section
/-! SUPPORT. Time and bus writes against the frames of Safety.lean: a tick changes no setting, loses no request,
and the `Elapsed`, `Stored` and `StoredTwo` frames hold of the states the shared operations build. -/

namespace Sys2Proof.Machine

/-- The video unit's settings. -/
def Video.regs (v : Video) : List Byte := [v.lcdc, v.scy, v.scx, v.lyc, v.bgp, v.obp0, v.obp1, v.wy, v.wx]

/-- Neither the settings nor the STAT enables differ. -/
def Video.SameRegs (v w : Video) : Prop := w.regs = v.regs ∧ w.statEn = v.statEn

theorem Video.SameRegs.trans {u v w : Video} (h : u.SameRegs v) (k : v.SameRegs w) : u.SameRegs w :=
  ⟨k.1.trans h.1, k.2.trans h.2⟩

theorem scanEntry_regs (oam : Memory) (i : Nat) (v : Video) : v.SameRegs (scanEntry oam i v) := by
  unfold scanEntry; extract_lets _ _ _; split <;> exact ⟨rfl, rfl⟩

theorem fetcherDot_regs (vram : Memory) (v : Video) : v.SameRegs (fetcherDot vram v) := by
  unfold fetcherDot
  extract_lets v1
  have h : v.SameRegs v1 := by
    simp only [v1]
    split
    · exact ⟨rfl, rfl⟩
    · split
      · exact ⟨rfl, rfl⟩
      · split <;> exact ⟨rfl, rfl⟩
  split
  · exact h.trans ⟨rfl, rfl⟩
  · split
    · exact h.trans ⟨rfl, rfl⟩
    · exact h

theorem popPixel_regs (v : Video) : v.SameRegs (popPixel v).1 := by
  unfold popPixel
  split
  · exact ⟨rfl, rfl⟩
  · simp only [takePixel, endTransfer]
    split <;> exact ⟨rfl, rfl⟩

theorem mode3Dot_regs (vram : Memory) (v : Video) : v.SameRegs (mode3Dot vram v).1 := by
  unfold mode3Dot
  split
  · exact ⟨rfl, rfl⟩
  · refine Video.SameRegs.trans ?_ (popPixel_regs _)
    refine Video.SameRegs.trans ?_ (fetcherDot_regs _ _)
    split <;> exact ⟨rfl, rfl⟩

theorem dotWork_regs (vram oam : Memory) (v : Video) : v.SameRegs (dotWork vram oam v).1 := by
  unfold dotWork
  split
  · split
    · simp only
      split <;> split
      · exact Video.SameRegs.trans ⟨rfl, rfl⟩ (scanEntry_regs ..)
      · exact scanEntry_regs ..
      · exact ⟨rfl, rfl⟩
      · exact ⟨rfl, rfl⟩
    · split
      · exact Video.SameRegs.trans ⟨rfl, rfl⟩ (mode3Dot_regs ..)
      · split
        · exact mode3Dot_regs ..
        · exact ⟨rfl, rfl⟩
  · exact ⟨rfl, rfl⟩

theorem advanceDot_regs (v : Video) : v.SameRegs (advanceDot v).video := by
  unfold advanceDot endOfLine
  simp only
  split
  · split
    · exact ⟨rfl, rfl⟩
    · split <;> exact ⟨rfl, rfl⟩
  · exact ⟨rfl, rfl⟩

theorem videoDot_regs (vram oam : Memory) (e : VideoEffect) : e.video.SameRegs (videoDot vram oam e).video :=
  ((dotWork_regs vram oam e.video).trans (advanceDot_regs _)).trans ⟨rfl, rfl⟩

/-- A tick changes no video register a program sets. -/
theorem videoTick_regs (vram oam : Memory) (v : Video) : v.SameRegs (videoTick vram oam v).video := by
  unfold videoTick
  simp only
  split
  · exact (((videoDot_regs _ _ ⟨v, 0, []⟩).trans (videoDot_regs ..)).trans (videoDot_regs ..)).trans
      (videoDot_regs ..)
  · exact ⟨rfl, rfl⟩

/-- The audio unit's settings. -/
def Audio.regs (a : Audio) : List Byte :=
  [a.sweep.nr10, a.ch1.nrx1, a.ch1.nrx2, a.ch2.nrx1, a.ch2.nrx2, a.ch2.nrx3, a.ch2.nrx4, a.ch3.nr30, a.ch3.nr31,
   a.ch3.nr32, a.ch3.nr33, a.ch3.nr34, a.ch4.nr41, a.ch4.nr42, a.ch4.nr43, a.ch4.nr44, a.nr50, a.nr51]

/-- Neither the settings nor the master enable differ. -/
def Audio.SameRegs (a b : Audio) : Prop := b.regs = a.regs ∧ b.on = a.on

theorem Audio.SameRegs.trans {a b c : Audio} (h : a.SameRegs b) (k : b.SameRegs c) : a.SameRegs c :=
  ⟨k.1.trans h.1, k.2.trans h.2⟩

theorem clockSweeps_regs (a : Audio) : a.SameRegs (clockSweeps a) := by
  unfold clockSweeps clockSweep
  simp only
  split
  · exact ⟨rfl, rfl⟩
  · split
    · split <;> exact ⟨rfl, rfl⟩
    · exact ⟨rfl, rfl⟩

theorem frameSeqEdge_regs (d : BitVec 16) (a : Audio) : a.SameRegs (frameSeqEdge d a) := by
  unfold frameSeqEdge
  simp only
  have h : a.SameRegs (frameSeqStep a) := by
    unfold frameSeqStep
    extract_lets a1 a2 a3
    have h1 : a.SameRegs a1 := by simp only [a1]; split <;> exact ⟨rfl, rfl⟩
    have h2 : a.SameRegs a2 := by
      simp only [a2]; split
      · exact h1.trans (clockSweeps_regs _)
      · exact h1
    have h3 : a.SameRegs a3 := by
      simp only [a3]; split
      · exact h2.trans ⟨rfl, rfl⟩
      · exact h2
    exact h3.trans ⟨rfl, rfl⟩
  split
  · exact h.trans ⟨rfl, rfl⟩
  · exact ⟨rfl, rfl⟩

theorem tickGenerators_regs (a : Audio) : a.SameRegs (tickGenerators a) := by
  have hs : ∀ q : Square, (squareTick q).nrx1 = q.nrx1 ∧ (squareTick q).nrx2 = q.nrx2 ∧
      (squareTick q).nrx3 = q.nrx3 ∧ (squareTick q).nrx4 = q.nrx4 := by
    intro q; unfold squareTick; split <;> exact ⟨rfl, rfl, rfl, rfl⟩
  have hw : ∀ w : Wave, (waveTick w).nr30 = w.nr30 ∧ (waveTick w).nr31 = w.nr31 ∧ (waveTick w).nr32 = w.nr32 ∧
      (waveTick w).nr33 = w.nr33 ∧ (waveTick w).nr34 = w.nr34 := by
    intro w; unfold waveTick; split <;> exact ⟨rfl, rfl, rfl, rfl, rfl⟩
  have hn : ∀ n : Noise, (noiseTick n).nr41 = n.nr41 ∧ (noiseTick n).nr42 = n.nr42 ∧
      (noiseTick n).nr43 = n.nr43 ∧ (noiseTick n).nr44 = n.nr44 := by
    intro n; unfold noiseTick; simp only
    split
    · exact ⟨rfl, rfl, rfl, rfl⟩
    · split <;> exact ⟨rfl, rfl, rfl, rfl⟩
  constructor <;> simp [Audio.regs, tickGenerators, hs, hw, hn]

/-- A tick changes no audio register a program sets, channel 1's period apart. -/
theorem audioTick_regs (cfg : Config) (d : BitVec 16) (a : Audio) : a.SameRegs (audioTick cfg d a).1 := by
  have h := (frameSeqEdge_regs d a).trans (tickGenerators_regs _)
  unfold audioTick sampleOut
  split <;> exact h.trans ⟨rfl, rfl⟩

/-! ## Settings and requests under time -/

theorem State.settings_congr {s t : State} (hie : t.ie = s.ie) (hb : t.bootDisabled = s.bootDisabled)
    (hc : t.cart = s.cart) (hs : t.serial = s.serial) (htma : t.timer.tma = s.timer.tma)
    (htac : t.timer.tac = s.timer.tac) (hj : t.joypad.sel = s.joypad.sel) (hd : t.dma.reg = s.dma.reg)
    (hv : s.video.SameRegs t.video) (ha : s.audio.SameRegs t.audio) (hg : t.cfg = s.cfg) :
    t.settings = s.settings := by
  have e1 : t.video.regs = s.video.regs := hv.1
  have e2 : t.audio.regs = s.audio.regs := ha.1
  simp only [Video.regs, Audio.regs] at e1 e2
  simp only [State.settings, hie, hb, hc, hs, htma, htac, hj, hd, hv.2, ha.2, hg, e1, e2]

theorem dmaStart_reg (d : Dma) : (dmaStart d).reg = d.reg := by
  unfold dmaStart; split <;> rfl

theorem dmaAdvance_reg (d : Dma) : (dmaAdvance d).reg = d.reg := by
  unfold dmaAdvance; split <;> rfl

theorem timerTick_regs (t : Timer) : (timerTick t).tma = t.tma ∧ (timerTick t).tac = t.tac := by
  unfold timerTick
  simp only
  split <;> exact ⟨rfl, rfl⟩

/-- A tick changes no setting. -/
theorem tick_settings (s : State) : (tick s).settings = s.settings := by
  refine State.settings_congr rfl rfl rfl rfl (timerTick_regs _).1 (timerTick_regs _).2 rfl ?_
    (videoTick_regs ..) (audioTick_regs ..) rfl
  show (dmaStart (dmaAdvance s.dma)).reg = s.dma.reg
  rw [dmaStart_reg, dmaAdvance_reg]

theorem ticks_settings (n : Nat) (s : State) : (ticks n s).settings = s.settings := by
  induction n generalizing s with
  | zero => rfl
  | succ n ih => rw [ticks, ih, tick_settings]

@[simp] theorem settings_mapCpu (f : Cpu → Cpu) (s : State) : (mapCpu f s).settings = s.settings := rfl

/-- Or-ing requests into IF loses none. -/
theorem keeps_or (a b : BitVec 5) : a &&& (a ||| b) = a := by
  apply BitVec.eq_of_getLsbD_eq
  intro i hi
  simp only [BitVec.getLsbD_and, BitVec.getLsbD_or]
  cases a.getLsbD i <;> simp

theorem keeps_trans {a b c : BitVec 5} (h : a &&& b = a) (k : b &&& c = b) : a &&& c = a := by
  rw [← h, BitVec.and_assoc, k]

/-- A tick loses no request. -/
theorem tick_requests (s : State) : s.ifl &&& (tick s).ifl = s.ifl :=
  keeps_trans (keeps_or s.ifl _) (keeps_trans (keeps_or _ _) (keeps_or _ _))

theorem ticks_requests (n : Nat) (s : State) : s.ifl &&& (ticks n s).ifl = s.ifl := by
  induction n generalizing s with
  | zero => exact BitVec.and_self
  | succ n ih => exact keeps_trans (tick_requests s) (ih _)

theorem ticks_still (n : Nat) (s : State) {l : Loc} (h : s.still l) : (ticks n s).byteAt l = s.byteAt l :=
  h.elim (fun h => ticks_byteAt s h n) (fun h => ticks_byteAt_quiet s h l n)

/-- Time with a change of registers is `Elapsed`. -/
theorem elapsed_of (n : Nat) (s : State) (f : Cpu → Cpu) : Elapsed n s (mapCpu f (ticks n s)) where
  time := by simp [mapCpu]
  frame := {
    settings := by rw [settings_mapCpu, ticks_settings]
    requests := ticks_requests n s
    memory := fun l h => by rw [byteAt_mapCpu, ticks_still n s h]
    reads := fun a h => by rw [busRead_mapCpu, busRead_ticks s h] }

/-! ## Settings and requests under a bus write -/

/-- What a bus write leaves in the settings depends on the settings alone. -/
theorem busWrite_settings {s t : State} (h : t.settings = s.settings) (a : Word) (v : Byte) :
    (busWrite t a v).settings = (busWrite s a v).settings := by
  obtain ⟨⟩ := s
  obtain ⟨⟩ := t
  simp only [State.settings, Settings.mk.injEq, List.cons.injEq, and_true] at h
  unfold busWrite
  cases hr : regionOf a with
  | io r =>
    cases r
    case nr52 =>
      obtain ⟨h1, h2, h3, h4, h5, h6, h7, h8, h9, h10, h11, h12, h13⟩ := h
      simp only [ioWrite, writeNr52, State.settings, Settings.mk.injEq, List.cons.injEq, h11]
      split
      · simp_all
      · split <;> simp_all
    case nr14 =>
      obtain ⟨h1, h2, h3, h4, h5, h6, h7, h8, h9, h10, h11, h12, h13⟩ := h
      simp only [ioWrite, audioWrite, writeNr14, Square.writeControl, Square.trigger, sweepTrigger, State.settings, Settings.mk.injEq, List.cons.injEq, h11]
      split
      · split <;> simp_all
      · simp_all
    case nr24 =>
      obtain ⟨h1, h2, h3, h4, h5, h6, h7, h8, h9, h10, h11, h12, h13⟩ := h
      simp only [ioWrite, audioWrite, Square.writeControl, Square.trigger, State.settings, Settings.mk.injEq, List.cons.injEq, h11]
      split
      · split <;> simp_all
      · simp_all
    case nr34 =>
      obtain ⟨h1, h2, h3, h4, h5, h6, h7, h8, h9, h10, h11, h12, h13⟩ := h
      simp only [ioWrite, audioWrite, Wave.writeControl, Wave.trigger, State.settings, Settings.mk.injEq, List.cons.injEq, h11]
      split
      · split <;> simp_all
      · simp_all
    case nr44 =>
      obtain ⟨h1, h2, h3, h4, h5, h6, h7, h8, h9, h10, h11, h12, h13⟩ := h
      simp only [ioWrite, audioWrite, Noise.writeControl, Noise.trigger, State.settings, Settings.mk.injEq, List.cons.injEq, h11]
      split
      · split <;> simp_all
      · simp_all
    case p1 => simp_all [ioWrite, State.settings, joypadPoll]
    all_goals first
      | (simp_all [ioWrite, State.settings]; done)
      | (obtain ⟨h1, h2, h3, h4, h5, h6, h7, h8, h9, h10, h11, h12, h13⟩ := h
         simp only [ioWrite, audioWrite, Square.writeLen, Square.writeEnv, Square.writePeriod, Wave.writeDac,
          Wave.writeLen, Noise.writeLen, Noise.writeEnv, State.settings, Settings.mk.injEq, List.cons.injEq, h11]
         split <;> simp_all)
  | _ => simp_all [State.settings]

/-- Only a write of IF loses a request. -/
theorem busWrite_requests (s : State) {a : Word} (h : regionOf a ≠ .io .iflag) (v : Byte) :
    s.ifl &&& (busWrite s a v).ifl = s.ifl := by
  unfold busWrite
  cases hr : regionOf a with
  | io r =>
    cases r
    case iflag => exact absurd hr h
    case p1 => exact keeps_or _ _
    all_goals exact BitVec.and_self
  | _ => exact BitVec.and_self

theorem memWrite_settings (s : State) (a : Word) (v : Byte) :
    (memWrite s a v).settings = (busWrite s a v).settings := by
  unfold memWrite
  split
  · exact busWrite_settings (tick_settings s) a v
  · exact tick_settings _

theorem memWrite_requests (s : State) {a : Word} (h : regionOf a ≠ .io .iflag) (v : Byte) :
    s.ifl &&& (memWrite s a v).ifl = s.ifl := by
  unfold memWrite
  split
  · exact keeps_trans (tick_requests s) (busWrite_requests _ h v)
  · exact keeps_trans (busWrite_requests s h v) (tick_requests _)

theorem busWrite_dma (s : State) (a : Word) (v : Byte) :
    (busWrite s a v).dma.active = s.dma.active ∧ (busWrite s a v).dma.q2 = s.dma.q2 := by
  unfold busWrite
  cases regionOf a with
  | io r => cases r <;> exact ⟨rfl, rfl⟩
  | _ => exact ⟨rfl, rfl⟩

/-- One write after time changes one byte at most. -/
theorem memWrite_still (s : State) (a : Word) (v : Byte) {l : Loc} (h : s.still l) :
    (memWrite s a v).byteAt l = if storeLoc (transferState s) a = some l then v else s.byteAt l := by
  rcases h with h | h
  · exact memWrite_byteAt s a v h
  · unfold memWrite transferState
    split
    · rw [busWrite_byteAt, tick_byteAt_quiet s h]
    · obtain ⟨h1, h2⟩ := busWrite_dma s a v
      have hb := busWrite_byteAt s a v l
      cases l with
      | oam k =>
        have : (tick (busWrite s a v)).oam = (busWrite s a v).oam := tick_oam _ (h1.trans h.1)
        simpa [State.byteAt, this] using hb
      | _ => exact (tick_byteAt _ (by trivial)).trans hb

theorem ticks_quiet_or (n : Nat) (s : State) {l : Loc} (h : s.still l) : (ticks n s).still l :=
  h.imp id fun h => ticks_quiet s h n

/-- A write after `n` M-cycles, with a change of registers, is `Stored`. -/
theorem stored_of (n : Nat) (s : State) (f : Cpu → Cpu) (a : Word) (v : Byte) :
    Stored n s (mapCpu f (memWrite (ticks n s) a v)) a v where
  effect := by simp [mapCpu]
  settings := by
    rw [settings_mapCpu, memWrite_settings]
    exact busWrite_settings (ticks_settings n s) a v
  requests := fun h => keeps_trans (ticks_requests n s) (memWrite_requests _ h v)
  memory := fun l h => by
    rw [byteAt_mapCpu, memWrite_still _ a v (ticks_quiet_or n s h), ticks_still n s h]

/-- The second of two writes changes one byte at most, even when the first starts a transfer. -/
theorem memWrite_second (s : State) (a1 a2 : Word) (v1 v2 : Byte) {l : Loc} (h : s.still l) :
    (memWrite (memWrite s a1 v1) a2 v2).byteAt l =
      if storeLoc (transferState (memWrite s a1 v1)) a2 = some l then v2 else (memWrite s a1 v1).byteAt l := by
  rcases h with h | h
  · exact memWrite_byteAt _ a2 v2 h
  · cases l with
    | oam k =>
      obtain ⟨hb1, hb2⟩ := busWrite_dma s a1 v1
      obtain ⟨hq1, hq2, hq3⟩ := h
      have hin : (memWrite s a1 v1).dma.active = false := by
        unfold memWrite
        split
        · have ht := tick_quiet s ⟨hq1, hq2, hq3⟩
          exact (busWrite_dma (tick s) a1 v1).1.trans ht.1
        · simp [dmaAdvance, dmaStart, hb1, hb2, hq1, hq3]
      have hph : (memWrite s a1 v1).cfg.phase = s.cfg.phase := by rw [memWrite_cfg]
      generalize memWrite s a1 v1 = u at *
      have hb : ∀ w : State, (busWrite w a2 v2).byteAt (.oam k) =
          if storeLoc w a2 = some (.oam k) then v2 else w.byteAt (.oam k) := fun w => busWrite_byteAt w a2 v2 _
      unfold memWrite transferState
      split
      · rw [hb]
        simp only [State.byteAt, tick_oam u hin]
      · have : (tick (busWrite u a2 v2)).oam = (busWrite u a2 v2).oam :=
          tick_oam _ ((busWrite_dma u a2 v2).1.trans hin)
        have hb' := hb u
        simpa only [State.byteAt, this] using hb'
    | _ => exact memWrite_byteAt _ a2 v2 trivial

/-- Two writes after `n` M-cycles, with a change of registers, are `StoredTwo`. -/
theorem storedTwo_of (n : Nat) (s : State) (f : Cpu → Cpu) (a1 a2 : Word) (v1 v2 : Byte) :
    StoredTwo n s (mapCpu f (memWrite (memWrite (ticks n s) a1 v1) a2 v2)) a1 v1 a2 v2 where
  effect := by simp [mapCpu]
  settings := by
    rw [settings_mapCpu, memWrite_settings]
    refine busWrite_settings ?_ a2 v2
    rw [memWrite_settings]
    exact busWrite_settings (ticks_settings n s) a1 v1
  requests := fun h1 h2 =>
    keeps_trans (ticks_requests n s) (keeps_trans (memWrite_requests _ h1 v1) (memWrite_requests _ h2 v2))
  memory := fun l h => by
    rw [byteAt_mapCpu, memWrite_second _ a1 a2 v1 v2 (ticks_quiet_or n s h),
      memWrite_still _ a1 v1 (ticks_quiet_or n s h), ticks_still n s h]

end Sys2Proof.Machine
end

