-- ==== Sys2Proof/Laws/Moves.lean ====
section
/-! SUPPORT. Everything a step can do, said once: register changes that keep F's low nibble zero, ticks, bus
writes, and clearing one request. An invariant kept by these four is kept by every step. -/

namespace Sys2Proof.Machine

/-- F's low nibble is zero (10_state.md R32). -/
def Cpu.flagsLow (c : Cpu) : Prop := c.f &&& 0x0F = 0

/-- A register change that keeps F's low nibble zero. -/
def Keeps (f : Cpu → Cpu) : Prop := ∀ c : Cpu, c.flagsLow → (f c).flagsLow

/-- `t` is reached from `s` by register changes, ticks, bus writes and cleared requests. -/
inductive Moves (s : State) : State → Prop where
  | refl : Moves s s
  | cpu {t : State} {f : Cpu → Cpu} (h : Keeps f) (m : Moves s t) : Moves s (mapCpu f t)
  | tick {t : State} (m : Moves s t) : Moves s (tick t)
  | write {t : State} (a : Word) (v : Byte) (m : Moves s t) : Moves s (busWrite t a v)
  | ack {t : State} (k : Nat) (m : Moves s t) : Moves s (ackIrq k t)

/-- The induction packaged once: what the four moves keep, every such run keeps. -/
theorem Moves.keeps {P : State → Prop} {s t : State} (m : Moves s t) (h : P s)
    (hc : ∀ t f, Keeps f → P t → P (mapCpu f t)) (ht : ∀ t, P t → P (Machine.tick t))
    (hw : ∀ t a v, P t → P (busWrite t a v)) (ha : ∀ t k, P t → P (ackIrq k t)) : P t := by
  induction m with
  | refl => exact h
  | cpu hf _ ih => exact hc _ _ hf ih
  | tick _ ih => exact ht _ ih
  | write a v _ ih => exact hw _ a v ih
  | ack k _ ih => exact ha _ k ih

/-! ## Register changes -/

theorem packF_low (z n h c : Bool) : packF z n h c &&& 0x0F = 0 := by
  cases z <;> cases n <;> cases h <;> cases c <;> rfl

theorem flagsLow_of_f {c d : Cpu} (h : d.f = c.f) (hc : c.flagsLow) : d.flagsLow := by
  unfold Cpu.flagsLow at *; rwa [h]

theorem aluResult_low (op : AluOp) (a v : Byte) (c : Bool) : (aluResult op a v c).2 &&& 0x0F = 0 := by
  cases op <;> exact packF_low ..

theorem daaResult_low (a f : Byte) : (daaResult a f).2 &&& 0x0F = 0 := by
  unfold daaResult
  split <;> exact packF_low ..

/-- Masking gives a byte with a zero low nibble. -/
theorem mask_low (v : Byte) : v &&& 0xF0 &&& 0x0F = 0 := by
  rw [BitVec.and_assoc]
  exact BitVec.and_zero

theorem keeps_setReg8 (r : Reg8) (v : Byte) : Keeps (Cpu.setReg8 r v) := fun c h => by
  cases r <;> exact flagsLow_of_f rfl h

theorem keeps_setRp (p : Rp) (g : Cpu → Word) : Keeps (fun c => c.setRp p (g c)) := fun c h => by
  cases p <;> exact flagsLow_of_f rfl h

theorem keeps_setRp2 (p : Rp2) (v : Word) : Keeps (Cpu.setRp2 p v) := fun c h => by
  cases p
  case af => exact mask_low _
  all_goals exact flagsLow_of_f rfl h

theorem keeps_bumpPtr (p : Rpm) : Keeps (Cpu.bumpPtr p) := fun c h => by
  cases p <;> exact flagsLow_of_f rfl h

theorem Keeps.comp {f g : Cpu → Cpu} (hf : Keeps f) (hg : Keeps g) : Keeps (fun c => g (f c)) :=
  fun c h => hg _ (hf c h)

theorem keeps_setPc (g : Cpu → Word) : Keeps (fun c => c.setPc (g c)) := fun _ h => flagsLow_of_f rfl h
theorem keeps_setSp (g : Cpu → Word) : Keeps (fun c => c.setSp (g c)) := fun _ h => flagsLow_of_f rfl h
theorem keeps_setF (g : Cpu → Byte) (h : ∀ c, g c &&& 0x0F = 0) : Keeps (fun c => c.setF (g c)) :=
  fun c _ => h c
theorem keeps_aluA (op : AluOp) (v : Byte) : Keeps (Cpu.aluA op v) := fun c _ =>
  aluResult_low op c.a v (flagC c.f)
theorem keeps_rotateA (op : ShiftOp) : Keeps (Cpu.rotateA op) := fun _ _ => packF_low ..
theorem keeps_daa : Keeps Cpu.daa := fun c _ => daaResult_low c.a c.f
theorem keeps_cpl : Keeps Cpu.cpl := fun _ _ => packF_low ..
theorem keeps_scf : Keeps Cpu.scf := fun _ _ => packF_low ..
theorem keeps_ccf : Keeps Cpu.ccf := fun _ _ => packF_low ..
theorem keeps_addHl (p : Rp) : Keeps (Cpu.addHl p) := fun _ _ => packF_low ..
theorem keeps_addSp (e : Byte) : Keeps (Cpu.addSp e) := fun _ _ => packF_low ..
theorem keeps_ldHlSp (e : Byte) : Keeps (Cpu.ldHlSp e) := fun _ _ => packF_low ..
theorem keeps_di : Keeps Cpu.di := fun _ h => flagsLow_of_f rfl h
theorem keeps_ei : Keeps Cpu.ei := fun _ h => flagsLow_of_f rfl h
theorem keeps_halt : Keeps Cpu.halt := fun _ h => flagsLow_of_f rfl h
theorem keeps_lock : Keeps Cpu.lock := fun _ h => flagsLow_of_f rfl h
theorem keeps_wake : Keeps Cpu.wake := fun _ h => flagsLow_of_f rfl h
theorem keeps_disableIme : Keeps Cpu.disableIme := fun _ h => flagsLow_of_f rfl h
theorem keeps_enableIme : Keeps Cpu.enableIme := fun _ h => flagsLow_of_f rfl h
theorem keeps_promoteIme : Keeps Cpu.promoteIme := fun c h => by
  unfold Cpu.promoteIme
  split
  · exact flagsLow_of_f rfl h
  · exact h

/-! ## The shared operations -/

namespace Moves

variable {s t : State}

theorem memRead (a : Word) (m : Moves s t) : Moves s (Machine.memRead t a).2 := m.tick

theorem memWrite (a : Word) (v : Byte) (m : Moves s t) : Moves s (Machine.memWrite t a v) := by
  unfold Machine.memWrite
  cases t.cfg.phase
  · exact m.tick.write a v
  · exact (m.write a v).tick

theorem idle (m : Moves s t) : Moves s (Machine.idle t) := m.tick

theorem fetch8 (m : Moves s t) : Moves s (Machine.fetch8 t).2 :=
  (m.memRead _).cpu (keeps_setPc _)

theorem push16 (v : Word) (m : Moves s t) : Moves s (Machine.push16 v t) :=
  (((m.cpu (keeps_setSp _)).memWrite _ _).cpu (keeps_setSp _)).memWrite _ _

theorem pop16 (m : Moves s t) : Moves s (Machine.pop16 t).2 :=
  (((m.memRead _).cpu (keeps_setSp _)).memRead _).cpu (keeps_setSp _)

theorem readOpnd (o : Opnd8) (m : Moves s t) : Moves s (Machine.readOpnd o t).2 := by
  cases o
  · exact m
  · exact m.memRead _

theorem writeOpnd (o : Opnd8) (v : Byte) (m : Moves s t) : Moves s (Machine.writeOpnd o v t) := by
  cases o
  · exact m.cpu (keeps_setReg8 _ _)
  · exact m.memWrite _ _

theorem returnFrom (m : Moves s t) : Moves s (Machine.returnFrom t) :=
  m.pop16.idle.cpu (keeps_setPc _)

theorem dispatch (m : Moves s t) : Moves s (Machine.dispatch t) :=
  ((((((m.ack _).cpu keeps_disableIme).idle).idle).push16 _).idle).cpu (keeps_setPc _)

theorem shiftOpnd (op : ShiftOp) (o : Opnd8) (m : Moves s t) : Moves s (Machine.shiftOpnd op o t) :=
  ((m.readOpnd o).writeOpnd o _).cpu (keeps_setF _ fun _ => packF_low ..)

theorem bitOpnd (b : Fin 8) (o : Opnd8) (m : Moves s t) : Moves s (Machine.bitOpnd b o t) :=
  (m.readOpnd o).cpu (keeps_setF _ fun _ => packF_low ..)

theorem resOpnd (b : Fin 8) (o : Opnd8) (m : Moves s t) : Moves s (Machine.resOpnd b o t) :=
  (m.readOpnd o).writeOpnd o _

theorem setOpnd (b : Fin 8) (o : Opnd8) (m : Moves s t) : Moves s (Machine.setOpnd b o t) :=
  (m.readOpnd o).writeOpnd o _

theorem executeCb (b : Byte) (m : Moves s t) : Moves s (Machine.executeCb b t) := by
  unfold Machine.executeCb
  split
  · exact m.shiftOpnd _ _
  · exact m.bitOpnd _ _
  · exact m.resOpnd _ _
  · exact m.setOpnd _ _

theorem jp (a : Word) (m : Moves s t) : Moves s (Machine.jp a t) := m.idle.cpu (keeps_setPc _)

theorem jr (e : Byte) (m : Moves s t) : Moves s (Machine.jr e t) := m.idle.cpu (keeps_setPc _)

theorem call (a : Word) (m : Moves s t) : Moves s (Machine.call a t) := (m.idle.push16 _).cpu (keeps_setPc _)

theorem jpIf (cc : Cond) (a : Word) (m : Moves s t) : Moves s (Machine.jpIf cc a t) := by
  unfold Machine.jpIf
  split
  · exact m.jp a
  · exact m

theorem jrIf (cc : Cond) (e : Byte) (m : Moves s t) : Moves s (Machine.jrIf cc e t) := by
  unfold Machine.jrIf
  split
  · exact m.jr e
  · exact m

theorem callIf (cc : Cond) (a : Word) (m : Moves s t) : Moves s (Machine.callIf cc a t) := by
  unfold Machine.callIf
  split
  · exact m.call a
  · exact m

theorem retIf (cc : Cond) (m : Moves s t) : Moves s (Machine.retIf cc t) := by
  unfold Machine.retIf
  split
  · exact m.idle.returnFrom
  · exact m.idle

theorem ld (d r : Opnd8) (m : Moves s t) : Moves s (Machine.ld d r t) := (m.readOpnd r).writeOpnd d _

theorem incOpnd (o : Opnd8) (m : Moves s t) : Moves s (Machine.incOpnd o t) :=
  ((m.readOpnd o).writeOpnd o _).cpu (keeps_setF _ fun _ => packF_low ..)

theorem decOpnd (o : Opnd8) (m : Moves s t) : Moves s (Machine.decOpnd o t) :=
  ((m.readOpnd o).writeOpnd o _).cpu (keeps_setF _ fun _ => packF_low ..)

theorem fetchInstr (m : Moves s t) : Moves s (Machine.fetchInstr t).2 := by
  unfold Machine.fetchInstr
  simp only
  split
  · exact m.fetch8
  · exact m.fetch8.fetch8
  · exact m.fetch8.fetch8.fetch8

end Moves

/-- Everything an instruction's meaning can do. -/
theorem exec_moves {i : Instr} {s t : State} (h : exec i s = .next t) : Moves s t := by
  have m : Moves s s := .refl
  cases i <;> cases h
  · exact m.cpu (keeps_setRp _ fun _ => _)
  · exact m.writeOpnd _ _
  · exact (m.memWrite _ _).memWrite _ _
  · exact m.writeOpnd _ _
  · exact m.cpu (keeps_setRp _ fun _ => _)
  · exact m.writeOpnd _ _
  · exact m.jr _
  · exact m.writeOpnd _ _
  · exact m.jrIf _ _
  · exact m.cpu (keeps_setRp _ fun _ => _)
  · exact m.writeOpnd _ _
  · exact m.jrIf _ _
  · exact m.writeOpnd _ _
  · exact m.jrIf _ _
  · exact m.cpu (keeps_setRp _ fun _ => _)
  · exact m.writeOpnd _ _
  · exact m.jrIf _ _
  · exact m.writeOpnd _ _
  · exact m.jpIf _ _
  · exact m.jp _
  · exact m.callIf _ _
  · exact m.cpu (keeps_aluA _ _)
  · exact m.jpIf _ _
  · exact m.callIf _ _
  · exact m.call _
  · exact m.cpu (keeps_aluA _ _)
  · exact m.jpIf _ _
  · exact m.cpu keeps_lock
  · exact m.callIf _ _
  · exact m.cpu (keeps_aluA _ _)
  · exact m.jpIf _ _
  · exact m.callIf _ _
  · exact m.cpu (keeps_aluA _ _)
  · exact m.memWrite _ _
  · exact m.cpu (keeps_aluA _ _)
  · exact m.idle.idle.cpu (keeps_addSp _)
  · exact m.memWrite _ _
  · exact m.cpu (keeps_aluA _ _)
  · exact (m.memRead _).cpu (keeps_setReg8 _ _)
  · exact m.cpu (keeps_aluA _ _)
  · exact m.idle.cpu (keeps_ldHlSp _)
  · exact (m.memRead _).cpu (keeps_setReg8 _ _)
  · exact m.cpu (keeps_aluA _ _)
  · exact m
  · exact (m.memWrite _ _).cpu (keeps_bumpPtr _)
  · exact m.idle.cpu (keeps_setRp _ _)
  · exact m.incOpnd _
  · exact m.decOpnd _
  · exact m.cpu (keeps_rotateA _)
  · exact m.idle.cpu (keeps_addHl _)
  · exact (m.memRead _).cpu ((keeps_setReg8 _ _).comp (keeps_bumpPtr _))
  · exact m.idle.cpu (keeps_setRp _ _)
  · exact m.incOpnd _
  · exact m.decOpnd _
  · exact m.cpu (keeps_rotateA _)
  · exact m
  · exact (m.memWrite _ _).cpu (keeps_bumpPtr _)
  · exact m.idle.cpu (keeps_setRp _ _)
  · exact m.incOpnd _
  · exact m.decOpnd _
  · exact m.cpu (keeps_rotateA _)
  · exact m.idle.cpu (keeps_addHl _)
  · exact (m.memRead _).cpu ((keeps_setReg8 _ _).comp (keeps_bumpPtr _))
  · exact m.idle.cpu (keeps_setRp _ _)
  · exact m.incOpnd _
  · exact m.decOpnd _
  · exact m.cpu (keeps_rotateA _)
  · exact (m.memWrite _ _).cpu (keeps_bumpPtr _)
  · exact m.idle.cpu (keeps_setRp _ _)
  · exact m.incOpnd _
  · exact m.decOpnd _
  · exact m.cpu keeps_daa
  · exact m.idle.cpu (keeps_addHl _)
  · exact (m.memRead _).cpu ((keeps_setReg8 _ _).comp (keeps_bumpPtr _))
  · exact m.idle.cpu (keeps_setRp _ _)
  · exact m.incOpnd _
  · exact m.decOpnd _
  · exact m.cpu keeps_cpl
  · exact (m.memWrite _ _).cpu (keeps_bumpPtr _)
  · exact m.idle.cpu (keeps_setRp _ _)
  · exact m.incOpnd _
  · exact m.decOpnd _
  · exact m.cpu keeps_scf
  · exact m.idle.cpu (keeps_addHl _)
  · exact (m.memRead _).cpu ((keeps_setReg8 _ _).comp (keeps_bumpPtr _))
  · exact m.idle.cpu (keeps_setRp _ _)
  · exact m.incOpnd _
  · exact m.decOpnd _
  · exact m.cpu keeps_ccf
  · exact m.ld _ _
  · exact m.ld _ _
  · exact m.ld _ _
  · exact m.ld _ _
  · exact m.ld _ _
  · exact m.ld _ _
  · exact m.ld _ _
  · exact m.ld _ _
  · exact m.ld _ _
  · exact m.ld _ _
  · exact m.ld _ _
  · exact m.ld _ _
  · exact m.ld _ _
  · exact m.ld _ _
  · exact m.ld _ _
  · exact m.ld _ _
  · exact m.ld _ _
  · exact m.ld _ _
  · exact m.ld _ _
  · exact m.ld _ _
  · exact m.ld _ _
  · exact m.ld _ _
  · exact m.ld _ _
  · exact m.ld _ _
  · exact m.ld _ _
  · exact m.ld _ _
  · exact m.ld _ _
  · exact m.ld _ _
  · exact m.ld _ _
  · exact m.ld _ _
  · exact m.ld _ _
  · exact m.ld _ _
  · exact m.ld _ _
  · exact m.ld _ _
  · exact m.ld _ _
  · exact m.ld _ _
  · exact m.ld _ _
  · exact m.ld _ _
  · exact m.ld _ _
  · exact m.ld _ _
  · exact m.ld _ _
  · exact m.ld _ _
  · exact m.ld _ _
  · exact m.ld _ _
  · exact m.ld _ _
  · exact m.ld _ _
  · exact m.ld _ _
  · exact m.ld _ _
  · exact m.ld _ _
  · exact m.ld _ _
  · exact m.ld _ _
  · exact m.ld _ _
  · exact m.ld _ _
  · exact m.ld _ _
  · exact m.cpu keeps_halt
  · exact m.ld _ _
  · exact m.ld _ _
  · exact m.ld _ _
  · exact m.ld _ _
  · exact m.ld _ _
  · exact m.ld _ _
  · exact m.ld _ _
  · exact m.ld _ _
  · exact m.ld _ _
  · exact (m.readOpnd _).cpu (keeps_aluA _ _)
  · exact (m.readOpnd _).cpu (keeps_aluA _ _)
  · exact (m.readOpnd _).cpu (keeps_aluA _ _)
  · exact (m.readOpnd _).cpu (keeps_aluA _ _)
  · exact (m.readOpnd _).cpu (keeps_aluA _ _)
  · exact (m.readOpnd _).cpu (keeps_aluA _ _)
  · exact (m.readOpnd _).cpu (keeps_aluA _ _)
  · exact (m.readOpnd _).cpu (keeps_aluA _ _)
  · exact (m.readOpnd _).cpu (keeps_aluA _ _)
  · exact (m.readOpnd _).cpu (keeps_aluA _ _)
  · exact (m.readOpnd _).cpu (keeps_aluA _ _)
  · exact (m.readOpnd _).cpu (keeps_aluA _ _)
  · exact (m.readOpnd _).cpu (keeps_aluA _ _)
  · exact (m.readOpnd _).cpu (keeps_aluA _ _)
  · exact (m.readOpnd _).cpu (keeps_aluA _ _)
  · exact (m.readOpnd _).cpu (keeps_aluA _ _)
  · exact (m.readOpnd _).cpu (keeps_aluA _ _)
  · exact (m.readOpnd _).cpu (keeps_aluA _ _)
  · exact (m.readOpnd _).cpu (keeps_aluA _ _)
  · exact (m.readOpnd _).cpu (keeps_aluA _ _)
  · exact (m.readOpnd _).cpu (keeps_aluA _ _)
  · exact (m.readOpnd _).cpu (keeps_aluA _ _)
  · exact (m.readOpnd _).cpu (keeps_aluA _ _)
  · exact (m.readOpnd _).cpu (keeps_aluA _ _)
  · exact (m.readOpnd _).cpu (keeps_aluA _ _)
  · exact (m.readOpnd _).cpu (keeps_aluA _ _)
  · exact (m.readOpnd _).cpu (keeps_aluA _ _)
  · exact (m.readOpnd _).cpu (keeps_aluA _ _)
  · exact (m.readOpnd _).cpu (keeps_aluA _ _)
  · exact (m.readOpnd _).cpu (keeps_aluA _ _)
  · exact (m.readOpnd _).cpu (keeps_aluA _ _)
  · exact (m.readOpnd _).cpu (keeps_aluA _ _)
  · exact (m.readOpnd _).cpu (keeps_aluA _ _)
  · exact (m.readOpnd _).cpu (keeps_aluA _ _)
  · exact (m.readOpnd _).cpu (keeps_aluA _ _)
  · exact (m.readOpnd _).cpu (keeps_aluA _ _)
  · exact (m.readOpnd _).cpu (keeps_aluA _ _)
  · exact (m.readOpnd _).cpu (keeps_aluA _ _)
  · exact (m.readOpnd _).cpu (keeps_aluA _ _)
  · exact (m.readOpnd _).cpu (keeps_aluA _ _)
  · exact (m.readOpnd _).cpu (keeps_aluA _ _)
  · exact (m.readOpnd _).cpu (keeps_aluA _ _)
  · exact (m.readOpnd _).cpu (keeps_aluA _ _)
  · exact (m.readOpnd _).cpu (keeps_aluA _ _)
  · exact (m.readOpnd _).cpu (keeps_aluA _ _)
  · exact (m.readOpnd _).cpu (keeps_aluA _ _)
  · exact (m.readOpnd _).cpu (keeps_aluA _ _)
  · exact (m.readOpnd _).cpu (keeps_aluA _ _)
  · exact (m.readOpnd _).cpu (keeps_aluA _ _)
  · exact (m.readOpnd _).cpu (keeps_aluA _ _)
  · exact (m.readOpnd _).cpu (keeps_aluA _ _)
  · exact (m.readOpnd _).cpu (keeps_aluA _ _)
  · exact (m.readOpnd _).cpu (keeps_aluA _ _)
  · exact (m.readOpnd _).cpu (keeps_aluA _ _)
  · exact (m.readOpnd _).cpu (keeps_aluA _ _)
  · exact (m.readOpnd _).cpu (keeps_aluA _ _)
  · exact (m.readOpnd _).cpu (keeps_aluA _ _)
  · exact (m.readOpnd _).cpu (keeps_aluA _ _)
  · exact (m.readOpnd _).cpu (keeps_aluA _ _)
  · exact (m.readOpnd _).cpu (keeps_aluA _ _)
  · exact (m.readOpnd _).cpu (keeps_aluA _ _)
  · exact (m.readOpnd _).cpu (keeps_aluA _ _)
  · exact (m.readOpnd _).cpu (keeps_aluA _ _)
  · exact (m.readOpnd _).cpu (keeps_aluA _ _)
  · exact m.retIf _
  · exact m.pop16.cpu (keeps_setRp2 _ _)
  · exact m.idle.push16 _
  · exact (m.idle.push16 _).cpu (keeps_setPc _)
  · exact m.retIf _
  · exact m.returnFrom
  · exact m.fetch8.executeCb _
  · exact (m.idle.push16 _).cpu (keeps_setPc _)
  · exact m.retIf _
  · exact m.pop16.cpu (keeps_setRp2 _ _)
  · exact m.idle.push16 _
  · exact (m.idle.push16 _).cpu (keeps_setPc _)
  · exact m.retIf _
  · exact m.returnFrom.cpu keeps_enableIme
  · exact (m.idle.push16 _).cpu (keeps_setPc _)
  · exact m.pop16.cpu (keeps_setRp2 _ _)
  · exact m.memWrite _ _
  · exact m.idle.push16 _
  · exact (m.idle.push16 _).cpu (keeps_setPc _)
  · exact m.cpu (keeps_setPc _)
  · exact (m.idle.push16 _).cpu (keeps_setPc _)
  · exact m.pop16.cpu (keeps_setRp2 _ _)
  · exact (m.memRead _).cpu (keeps_setReg8 _ _)
  · exact m.cpu keeps_di
  · exact m.idle.push16 _
  · exact (m.idle.push16 _).cpu (keeps_setPc _)
  · exact m.idle.cpu (keeps_setSp _)
  · exact m.cpu keeps_ei
  · exact (m.idle.push16 _).cpu (keeps_setPc _)
  · exact m.shiftOpnd _ _
  · exact m.shiftOpnd _ _
  · exact m.shiftOpnd _ _
  · exact m.shiftOpnd _ _
  · exact m.shiftOpnd _ _
  · exact m.shiftOpnd _ _
  · exact m.shiftOpnd _ _
  · exact m.shiftOpnd _ _
  · exact m.shiftOpnd _ _
  · exact m.shiftOpnd _ _
  · exact m.shiftOpnd _ _
  · exact m.shiftOpnd _ _
  · exact m.shiftOpnd _ _
  · exact m.shiftOpnd _ _
  · exact m.shiftOpnd _ _
  · exact m.shiftOpnd _ _
  · exact m.shiftOpnd _ _
  · exact m.shiftOpnd _ _
  · exact m.shiftOpnd _ _
  · exact m.shiftOpnd _ _
  · exact m.shiftOpnd _ _
  · exact m.shiftOpnd _ _
  · exact m.shiftOpnd _ _
  · exact m.shiftOpnd _ _
  · exact m.shiftOpnd _ _
  · exact m.shiftOpnd _ _
  · exact m.shiftOpnd _ _
  · exact m.shiftOpnd _ _
  · exact m.shiftOpnd _ _
  · exact m.shiftOpnd _ _
  · exact m.shiftOpnd _ _
  · exact m.shiftOpnd _ _
  · exact m.shiftOpnd _ _
  · exact m.shiftOpnd _ _
  · exact m.shiftOpnd _ _
  · exact m.shiftOpnd _ _
  · exact m.shiftOpnd _ _
  · exact m.shiftOpnd _ _
  · exact m.shiftOpnd _ _
  · exact m.shiftOpnd _ _
  · exact m.shiftOpnd _ _
  · exact m.shiftOpnd _ _
  · exact m.shiftOpnd _ _
  · exact m.shiftOpnd _ _
  · exact m.shiftOpnd _ _
  · exact m.shiftOpnd _ _
  · exact m.shiftOpnd _ _
  · exact m.shiftOpnd _ _
  · exact m.shiftOpnd _ _
  · exact m.shiftOpnd _ _
  · exact m.shiftOpnd _ _
  · exact m.shiftOpnd _ _
  · exact m.shiftOpnd _ _
  · exact m.shiftOpnd _ _
  · exact m.shiftOpnd _ _
  · exact m.shiftOpnd _ _
  · exact m.shiftOpnd _ _
  · exact m.shiftOpnd _ _
  · exact m.shiftOpnd _ _
  · exact m.shiftOpnd _ _
  · exact m.shiftOpnd _ _
  · exact m.shiftOpnd _ _
  · exact m.shiftOpnd _ _
  · exact m.shiftOpnd _ _
  · exact m.bitOpnd _ _
  · exact m.bitOpnd _ _
  · exact m.bitOpnd _ _
  · exact m.bitOpnd _ _
  · exact m.bitOpnd _ _
  · exact m.bitOpnd _ _
  · exact m.bitOpnd _ _
  · exact m.bitOpnd _ _
  · exact m.bitOpnd _ _
  · exact m.bitOpnd _ _
  · exact m.bitOpnd _ _
  · exact m.bitOpnd _ _
  · exact m.bitOpnd _ _
  · exact m.bitOpnd _ _
  · exact m.bitOpnd _ _
  · exact m.bitOpnd _ _
  · exact m.bitOpnd _ _
  · exact m.bitOpnd _ _
  · exact m.bitOpnd _ _
  · exact m.bitOpnd _ _
  · exact m.bitOpnd _ _
  · exact m.bitOpnd _ _
  · exact m.bitOpnd _ _
  · exact m.bitOpnd _ _
  · exact m.bitOpnd _ _
  · exact m.bitOpnd _ _
  · exact m.bitOpnd _ _
  · exact m.bitOpnd _ _
  · exact m.bitOpnd _ _
  · exact m.bitOpnd _ _
  · exact m.bitOpnd _ _
  · exact m.bitOpnd _ _
  · exact m.bitOpnd _ _
  · exact m.bitOpnd _ _
  · exact m.bitOpnd _ _
  · exact m.bitOpnd _ _
  · exact m.bitOpnd _ _
  · exact m.bitOpnd _ _
  · exact m.bitOpnd _ _
  · exact m.bitOpnd _ _
  · exact m.bitOpnd _ _
  · exact m.bitOpnd _ _
  · exact m.bitOpnd _ _
  · exact m.bitOpnd _ _
  · exact m.bitOpnd _ _
  · exact m.bitOpnd _ _
  · exact m.bitOpnd _ _
  · exact m.bitOpnd _ _
  · exact m.bitOpnd _ _
  · exact m.bitOpnd _ _
  · exact m.bitOpnd _ _
  · exact m.bitOpnd _ _
  · exact m.bitOpnd _ _
  · exact m.bitOpnd _ _
  · exact m.bitOpnd _ _
  · exact m.bitOpnd _ _
  · exact m.bitOpnd _ _
  · exact m.bitOpnd _ _
  · exact m.bitOpnd _ _
  · exact m.bitOpnd _ _
  · exact m.bitOpnd _ _
  · exact m.bitOpnd _ _
  · exact m.bitOpnd _ _
  · exact m.bitOpnd _ _
  · exact m.resOpnd _ _
  · exact m.resOpnd _ _
  · exact m.resOpnd _ _
  · exact m.resOpnd _ _
  · exact m.resOpnd _ _
  · exact m.resOpnd _ _
  · exact m.resOpnd _ _
  · exact m.resOpnd _ _
  · exact m.resOpnd _ _
  · exact m.resOpnd _ _
  · exact m.resOpnd _ _
  · exact m.resOpnd _ _
  · exact m.resOpnd _ _
  · exact m.resOpnd _ _
  · exact m.resOpnd _ _
  · exact m.resOpnd _ _
  · exact m.resOpnd _ _
  · exact m.resOpnd _ _
  · exact m.resOpnd _ _
  · exact m.resOpnd _ _
  · exact m.resOpnd _ _
  · exact m.resOpnd _ _
  · exact m.resOpnd _ _
  · exact m.resOpnd _ _
  · exact m.resOpnd _ _
  · exact m.resOpnd _ _
  · exact m.resOpnd _ _
  · exact m.resOpnd _ _
  · exact m.resOpnd _ _
  · exact m.resOpnd _ _
  · exact m.resOpnd _ _
  · exact m.resOpnd _ _
  · exact m.resOpnd _ _
  · exact m.resOpnd _ _
  · exact m.resOpnd _ _
  · exact m.resOpnd _ _
  · exact m.resOpnd _ _
  · exact m.resOpnd _ _
  · exact m.resOpnd _ _
  · exact m.resOpnd _ _
  · exact m.resOpnd _ _
  · exact m.resOpnd _ _
  · exact m.resOpnd _ _
  · exact m.resOpnd _ _
  · exact m.resOpnd _ _
  · exact m.resOpnd _ _
  · exact m.resOpnd _ _
  · exact m.resOpnd _ _
  · exact m.resOpnd _ _
  · exact m.resOpnd _ _
  · exact m.resOpnd _ _
  · exact m.resOpnd _ _
  · exact m.resOpnd _ _
  · exact m.resOpnd _ _
  · exact m.resOpnd _ _
  · exact m.resOpnd _ _
  · exact m.resOpnd _ _
  · exact m.resOpnd _ _
  · exact m.resOpnd _ _
  · exact m.resOpnd _ _
  · exact m.resOpnd _ _
  · exact m.resOpnd _ _
  · exact m.resOpnd _ _
  · exact m.resOpnd _ _
  · exact m.setOpnd _ _
  · exact m.setOpnd _ _
  · exact m.setOpnd _ _
  · exact m.setOpnd _ _
  · exact m.setOpnd _ _
  · exact m.setOpnd _ _
  · exact m.setOpnd _ _
  · exact m.setOpnd _ _
  · exact m.setOpnd _ _
  · exact m.setOpnd _ _
  · exact m.setOpnd _ _
  · exact m.setOpnd _ _
  · exact m.setOpnd _ _
  · exact m.setOpnd _ _
  · exact m.setOpnd _ _
  · exact m.setOpnd _ _
  · exact m.setOpnd _ _
  · exact m.setOpnd _ _
  · exact m.setOpnd _ _
  · exact m.setOpnd _ _
  · exact m.setOpnd _ _
  · exact m.setOpnd _ _
  · exact m.setOpnd _ _
  · exact m.setOpnd _ _
  · exact m.setOpnd _ _
  · exact m.setOpnd _ _
  · exact m.setOpnd _ _
  · exact m.setOpnd _ _
  · exact m.setOpnd _ _
  · exact m.setOpnd _ _
  · exact m.setOpnd _ _
  · exact m.setOpnd _ _
  · exact m.setOpnd _ _
  · exact m.setOpnd _ _
  · exact m.setOpnd _ _
  · exact m.setOpnd _ _
  · exact m.setOpnd _ _
  · exact m.setOpnd _ _
  · exact m.setOpnd _ _
  · exact m.setOpnd _ _
  · exact m.setOpnd _ _
  · exact m.setOpnd _ _
  · exact m.setOpnd _ _
  · exact m.setOpnd _ _
  · exact m.setOpnd _ _
  · exact m.setOpnd _ _
  · exact m.setOpnd _ _
  · exact m.setOpnd _ _
  · exact m.setOpnd _ _
  · exact m.setOpnd _ _
  · exact m.setOpnd _ _
  · exact m.setOpnd _ _
  · exact m.setOpnd _ _
  · exact m.setOpnd _ _
  · exact m.setOpnd _ _
  · exact m.setOpnd _ _
  · exact m.setOpnd _ _
  · exact m.setOpnd _ _
  · exact m.setOpnd _ _
  · exact m.setOpnd _ _
  · exact m.setOpnd _ _
  · exact m.setOpnd _ _
  · exact m.setOpnd _ _
  · exact m.setOpnd _ _

/-- Everything a step can do before an instruction executes. -/
theorem turn_moves (s : State) :
    (∃ t, turn s = .done t ∧ Moves s t) ∨ ∃ i t, turn s = .run i t ∧ Moves s t := by
  unfold turn
  split
  · exact .inl ⟨_, rfl, Moves.refl.idle⟩
  · split
    · exact .inl ⟨_, rfl, Moves.refl.idle⟩
    · simp only
      split
      · exact .inl ⟨_, rfl, (Moves.refl.cpu keeps_wake).dispatch⟩
      · exact .inr ⟨_, _, rfl, ((Moves.refl.cpu keeps_wake).cpu keeps_promoteIme).fetchInstr⟩

theorem Moves.trans {s t u : State} (h : Moves s t) (k : Moves t u) : Moves s u := by
  induction k with
  | refl => exact h
  | cpu hf _ ih => exact ih.cpu hf
  | tick _ ih => exact ih.tick
  | write a v _ ih => exact ih.write a v
  | ack k _ ih => exact ih.ack k

/-- Everything a step can do. -/
theorem step_moves {s t : State} (h : step s = .next t) : Moves s t := by
  unfold step at h
  rcases turn_moves s with ⟨u, hu, m⟩ | ⟨i, u, hu, m⟩
  · rw [hu] at h; cases h; exact m
  · rw [hu] at h; exact m.trans (exec_moves h)

end Sys2Proof.Machine
end

