-- ==== Sys2Proof/Laws/Regions.lean ====
section
/-! SUPPORT. The address map by ranges, the bounds of its offsets, what an I/O address shows and takes, words as
numbers, and the boot overlay's side condition. -/

namespace Sys2Proof

theorem word_toNat (a b : Byte) : (word a b).toNat = 256 * a.toNat + b.toNat := by
  have hb : b.toNat < 2 ^ 8 := b.isLt
  show (a ++ b).toNat = _
  rw [BitVec.toNat_append, Nat.shiftLeft_eq, Nat.mul_comm a.toNat, ← Nat.two_pow_add_eq_or_of_lt hb]

theorem hiByte_toNat (w : Word) : (hiByte w).toNat = w.toNat / 256 := by
  have : w.toNat < 65536 := w.isLt
  simp [hiByte, BitVec.extractLsb'_toNat, Nat.shiftRight_eq_div_pow]; omega

theorem loByte_toNat (w : Word) : (loByte w).toNat = w.toNat % 256 := by
  simp [loByte, BitVec.extractLsb'_toNat]

theorem loByte_word (a b : Byte) : loByte (word a b) = b := by
  apply BitVec.eq_of_toNat_eq
  have h2 : b.toNat < 256 := b.isLt
  rw [loByte_toNat, word_toNat]; omega

theorem hiByte_word (a b : Byte) : hiByte (word a b) = a := by
  apply BitVec.eq_of_toNat_eq
  have h2 : b.toNat < 256 := b.isLt
  rw [hiByte_toNat, word_toNat]; omega

namespace Machine

variable {a : Word}

/-- The whole address map by ranges (20_memory.md R101). -/
theorem regionOf_ranges (a : Word) :
    (a.toNat ≤ 0x7FFF → regionOf a = .rom) ∧
    (0x8000 ≤ a.toNat → a.toNat ≤ 0x9FFF → regionOf a = .vram (a.toNat - 0x8000)) ∧
    (0xA000 ≤ a.toNat → a.toNat ≤ 0xBFFF → regionOf a = .cartRam) ∧
    (0xC000 ≤ a.toNat → a.toNat ≤ 0xDFFF → regionOf a = .wram (a.toNat - 0xC000)) ∧
    (0xE000 ≤ a.toNat → a.toNat ≤ 0xFDFF → regionOf a = .wram (a.toNat - 0xE000)) ∧
    (0xFE00 ≤ a.toNat → a.toNat ≤ 0xFE9F → regionOf a = .oam (a.toNat - 0xFE00)) ∧
    (0xFEA0 ≤ a.toNat → a.toNat ≤ 0xFEFF → regionOf a = .unmapped) ∧
    (0xFF00 ≤ a.toNat → a.toNat ≤ 0xFF7F → regionOf a = .io (ioRegOf (a.toNat - 0xFF00))) ∧
    (0xFF80 ≤ a.toNat → a.toNat ≤ 0xFFFE → regionOf a = .hram (a.toNat - 0xFF80)) := by
  unfold regionOf
  simp only
  split_ifs <;> refine ⟨?_, ?_, ?_, ?_, ?_, ?_, ?_, ?_, ?_⟩ <;> intros <;> first | (exfalso; omega) | rfl

theorem regionOf_rom (h : a.toNat ≤ 0x7FFF) : regionOf a = .rom := (regionOf_ranges a).1 h

theorem regionOf_vram (h : 0x8000 ≤ a.toNat) (h2 : a.toNat ≤ 0x9FFF) : regionOf a = .vram (a.toNat - 0x8000) :=
  (regionOf_ranges a).2.1 h h2

theorem regionOf_cartRam (h : 0xA000 ≤ a.toNat) (h2 : a.toNat ≤ 0xBFFF) : regionOf a = .cartRam :=
  (regionOf_ranges a).2.2.1 h h2

theorem regionOf_wram (h : 0xC000 ≤ a.toNat) (h2 : a.toNat ≤ 0xDFFF) : regionOf a = .wram (a.toNat - 0xC000) :=
  (regionOf_ranges a).2.2.2.1 h h2

theorem regionOf_echo (h : 0xE000 ≤ a.toNat) (h2 : a.toNat ≤ 0xFDFF) : regionOf a = .wram (a.toNat - 0xE000) :=
  (regionOf_ranges a).2.2.2.2.1 h h2

theorem regionOf_oamRange (h : 0xFE00 ≤ a.toNat) (h2 : a.toNat ≤ 0xFE9F) :
    regionOf a = .oam (a.toNat - 0xFE00) :=
  (regionOf_ranges a).2.2.2.2.2.1 h h2

theorem regionOf_unmapped (h : 0xFEA0 ≤ a.toNat) (h2 : a.toNat ≤ 0xFEFF) : regionOf a = .unmapped :=
  (regionOf_ranges a).2.2.2.2.2.2.1 h h2

theorem regionOf_ioRange (h : 0xFF00 ≤ a.toNat) (h2 : a.toNat ≤ 0xFF7F) :
    regionOf a = .io (ioRegOf (a.toNat - 0xFF00)) :=
  (regionOf_ranges a).2.2.2.2.2.2.2.1 h h2

theorem regionOf_hram (h : 0xFF80 ≤ a.toNat) (h2 : a.toNat ≤ 0xFFFE) : regionOf a = .hram (a.toNat - 0xFF80) :=
  (regionOf_ranges a).2.2.2.2.2.2.2.2 h h2

theorem regionOf_bounds (a : Word) :
    (∀ k, regionOf a = .vram k → k < 0x2000) ∧ (∀ k, regionOf a = .wram k → k < 0x2000) ∧
      ∀ k, regionOf a = .hram k → k < 127 := by
  unfold regionOf
  simp only
  have := a.isLt
  refine ⟨fun k h => ?_, fun k h => ?_, fun k h => ?_⟩ <;> split_ifs at h <;>
    (simp only [Region.vram.injEq, Region.wram.injEq, Region.hram.injEq] at h; omega)

/-- Only sixteen addresses show the wave table. -/
theorem ioRegOf_wave {n k : Nat} (h : ioRegOf n = .wave k) : k < 16 := by
  unfold ioRegOf at h
  split_ifs at h
  · split at h <;> simp only [reduceCtorEq] at h
  · have : n = n - 0x10 + 0x10 := by omega
    generalize n - 0x10 = m at *
    have hm : m < 32 := by omega
    interval_cases m <;> simp at h
  · have := IoReg.wave.inj h; omega
  · have : n = n - 0x40 + 0x40 := by omega
    generalize n - 0x40 = m at *
    have hm : m < 12 := by omega
    interval_cases m <;> simp at h

/-- A cartridge RAM cell is inside the RAM. -/
theorem ramCell_lt {cfg : Config} {cart : Cart} {i : Nat} (h : ramCell cfg cart a = some i) : i < ramSize cfg := by
  unfold ramCell at h
  simp only at h
  split at h
  · cases h
  · next hn =>
    have hp : 0 < ramSize cfg := Nat.pos_of_ne_zero fun h0 => hn (.inl h0)
    split at h
    · cases h
    · cases h; exact Nat.mod_lt _ hp
    · cases h; exact Nat.mod_lt _ hp

/-- Where the boot overlay does not answer. -/
theorem not_overlay {s : State} (h : 0xFF < a.toNat ∨ s.bootDisabled = true) :
    ¬(a.toNat ≤ 0xFF ∧ s.bootDisabled = false) := by
  rintro ⟨h1, h2⟩
  rcases h with h | h
  · omega
  · rw [h] at h2; cases h2

/-- An address past the boot overlay is read where the map sends it. -/
theorem busRead_pastOverlay {s : State} (h : 0xFF < a.toNat) :
    busRead s a = busRead { s with bootDisabled := true } a := by
  unfold busRead
  rw [if_neg (not_overlay (.inl h)), if_neg (by simp)]
  cases regionOf a with
  | io r => cases r <;> rfl
  | _ => rfl

/-- What the I/O window shows and takes at an address is `ioRead` and `ioWrite` of its register. -/
theorem State.maps_io {s : State} {r : IoReg} (h : regionOf a = .io r) : s.Maps a (ioRead s r) (ioWrite s r) := by
  have hr : 0xFF < a.toNat := by
    by_contra hn
    rw [regionOf_rom (by omega)] at h
    cases h
  constructor
  · rw [busRead_pastOverlay hr]; unfold busRead; rw [if_neg (by simp), h]; cases r <;> rfl
  · intro v; unfold busWrite; rw [h]

/-- An address that holds no register is the map's unused one. -/
theorem regionOf_unusedIo (h : unusedIo a) : regionOf a = .io .unused := by
  have hr : 0xFF00 ≤ a.toNat ∧ a.toNat ≤ 0xFF7F := by
    rcases h with rfl | h | rfl | rfl | h | h | h <;> first | decide | omega
  rw [regionOf_ioRange hr.1 hr.2]
  have hm : a.toNat = a.toNat - 0xFF00 + 0xFF00 := by omega
  have hb : a.toNat - 0xFF00 < 0x80 := by omega
  have key : ∀ n, n < 0x80 → unusedIo (BitVec.ofNat 16 (n + 0xFF00)) → ioRegOf n = .unused := by
    unfold unusedIo; decide +kernel
  refine congrArg Region.io (key _ hb ?_)
  rwa [← hm, BitVec.ofNat_toNat, BitVec.setWidth_eq]

/-- Work and high RAM lie in their two regions, and time leaves them alone. -/
theorem ramAddr_region (h : ramAddr a) : (∃ k, regionOf a = .wram k) ∨ ∃ k, regionOf a = .hram k := by
  rcases h with ⟨h1, h2⟩ | ⟨h1, h2⟩
  · rcases Nat.lt_or_ge a.toNat 0xE000 with h | h
    · exact .inl ⟨_, regionOf_wram h1 (by omega)⟩
    · exact .inl ⟨_, regionOf_echo h h2⟩
  · exact .inr ⟨_, regionOf_hram h1 h2⟩

theorem ramAddr_plain (h : ramAddr a) : plainAddr a := by
  unfold ramAddr at h; unfold plainAddr; omega

end Machine

end Sys2Proof
end

