-- ==== Sys2Proof/Laws/Stack.lean ====
section
/-! SUPPORT. A push and a pop in closed form: two writes or two reads, and one change of SP. -/

namespace Sys2Proof.Machine

variable (s : State)

/-- A push after an idle M-cycle: the high byte at SP - 1, the low byte at SP - 2. -/
theorem push16_idle (v : Word) :
    push16 v (idle s) =
      mapCpu (fun c => c.setSp (c.sp - 2))
        (memWrite (memWrite (ticks 1 s) (s.cpu.sp - 1) (hiByte v)) (s.cpu.sp - 2) (loByte v)) := by
  have h2 : ∀ w : Word, w - 1 - 1 = w - 2 := by intro w; bv_omega
  simp only [push16, idle, ticks, memWrite_mapCpu, mapCpu_mapCpu, mapCpu_cpu, memWrite_cpu, Cpu.setSp, tick_cpu, h2]

/-- A pop: the low byte at SP, then the high byte at SP + 1 one M-cycle later. -/
theorem pop16_eq :
    pop16 s =
      (word (busRead (transferState (tick s)) (s.cpu.sp + 1)) (busRead (transferState s) s.cpu.sp),
       mapCpu (fun c => c.setSp (c.sp + 2)) (ticks 2 s)) := by
  have h2 : ∀ w : Word, w + 1 + 1 = w + 2 := by intro w; bv_omega
  simp only [pop16, ticks, memRead_mapCpu, mapCpu_mapCpu, mapCpu_cpu, Cpu.setSp, tick_cpu, h2, memRead_fst,
    memRead_snd]

/-- A write of any register but 0xFF46 starts no transfer. -/
theorem busWrite_quiet {s : State} (h : s.dma.quiet) {a : Word} (ha : regionOf a ≠ .io .dma) (v : Byte) :
    (busWrite s a v).dma.quiet := by
  unfold busWrite
  cases hr : regionOf a with
  | io r => cases r <;> first | exact h | exact absurd hr ha
  | _ => exact h

theorem memWrite_quiet {s : State} (h : s.dma.quiet) {a : Word} (ha : regionOf a ≠ .io .dma) (v : Byte) :
    (memWrite s a v).dma.quiet := by
  unfold memWrite
  split
  · exact busWrite_quiet (tick_quiet s h) ha v
  · exact tick_quiet _ (busWrite_quiet h ha v)

end Sys2Proof.Machine
end

