-- ==== Sys2Proof/Laws/Timing.lean ====
section
/-! SUPPORT. How many M-cycles each shared operation takes: one per bus access or idle cycle, none for a register
operand. -/

namespace Sys2Proof.Machine

variable (s : State)

@[simp] theorem tick_tickCount' : (tick s).tickCount = s.tickCount + 1 := rfl
@[simp] theorem idle_tickCount : (idle s).tickCount = s.tickCount + 1 := rfl
@[simp] theorem fetch8_tickCount : (fetch8 s).2.tickCount = s.tickCount + 1 := rfl
@[simp] theorem push16_tickCount (v : Word) : (push16 v s).tickCount = s.tickCount + 2 := by simp [push16]
@[simp] theorem pop16_tickCount : (pop16 s).2.tickCount = s.tickCount + 2 := by simp [pop16]
@[simp] theorem returnFrom_tickCount : (returnFrom s).tickCount = s.tickCount + 3 := by simp [returnFrom]
@[simp] theorem returnFromInterrupt_tickCount : (returnFromInterrupt s).tickCount = s.tickCount + 3 := by
  simp [returnFromInterrupt]

@[simp] theorem readOpnd_reg_tickCount (r : Reg8) : (readOpnd (.reg r) s).2.tickCount = s.tickCount := rfl
@[simp] theorem readOpnd_ind_tickCount : (readOpnd .indHl s).2.tickCount = s.tickCount + 1 := rfl
@[simp] theorem writeOpnd_reg_tickCount (r : Reg8) (v : Byte) :
    (writeOpnd (.reg r) v s).tickCount = s.tickCount := rfl
@[simp] theorem writeOpnd_ind_tickCount (v : Byte) : (writeOpnd .indHl v s).tickCount = s.tickCount + 1 := by
  simp [writeOpnd]

/-- The data transfers of an 8-bit operand that is read, or read and written back. -/
def readCycles : Opnd8 → Nat
  | .reg _ => 0
  | .indHl => 1

theorem readOpnd_tickCount (o : Opnd8) : (readOpnd o s).2.tickCount = s.tickCount + readCycles o := by
  cases o <;> simp [readCycles]
theorem writeOpnd_tickCount (o : Opnd8) (v : Byte) : (writeOpnd o v s).tickCount = s.tickCount + readCycles o := by
  cases o <;> simp [readCycles]

@[simp] theorem ld_tickCount (d r : Opnd8) : (ld d r s).tickCount = s.tickCount + (readCycles r + readCycles d) := by
  simp [ld, writeOpnd_tickCount, readOpnd_tickCount, Nat.add_assoc]
@[simp] theorem ldAPtr_tickCount (p : Rpm) : (ldAPtr p s).tickCount = s.tickCount + 1 := by simp [ldAPtr]
@[simp] theorem ldPtrA_tickCount (p : Rpm) : (ldPtrA p s).tickCount = s.tickCount + 1 := by simp [ldPtrA]
@[simp] theorem ldRp_tickCount (p : Rp) (n : Word) : (ldRp p n s).tickCount = s.tickCount := rfl
@[simp] theorem ldIndSp_tickCount (n : Word) : (ldIndSp n s).tickCount = s.tickCount + 2 := by simp [ldIndSp]
@[simp] theorem ldSpHl_tickCount : (ldSpHl s).tickCount = s.tickCount + 1 := rfl
@[simp] theorem ldAAddr_tickCount (a : Word) : (ldAAddr a s).tickCount = s.tickCount + 1 := rfl
@[simp] theorem ldAddrA_tickCount (a : Word) : (ldAddrA a s).tickCount = s.tickCount + 1 := by simp [ldAddrA]
@[simp] theorem push_tickCount (p : Rp2) : (push p s).tickCount = s.tickCount + 3 := by simp [push]
@[simp] theorem pop_tickCount (p : Rp2) : (pop p s).tickCount = s.tickCount + 2 := by simp [pop]
@[simp] theorem aluOpnd_tickCount (op : AluOp) (o : Opnd8) :
    (aluOpnd op o s).tickCount = s.tickCount + readCycles o := by simp [aluOpnd, readOpnd_tickCount]
@[simp] theorem incOpnd_tickCount (o : Opnd8) :
    (incOpnd o s).tickCount = s.tickCount + (readCycles o + readCycles o) := by
  simp [incOpnd, writeOpnd_tickCount, readOpnd_tickCount, Nat.add_assoc]
@[simp] theorem decOpnd_tickCount (o : Opnd8) :
    (decOpnd o s).tickCount = s.tickCount + (readCycles o + readCycles o) := by
  simp [decOpnd, writeOpnd_tickCount, readOpnd_tickCount, Nat.add_assoc]
@[simp] theorem incRp_tickCount (p : Rp) : (incRp p s).tickCount = s.tickCount + 1 := rfl
@[simp] theorem decRp_tickCount (p : Rp) : (decRp p s).tickCount = s.tickCount + 1 := rfl
@[simp] theorem addHl_tickCount (p : Rp) : (addHl p s).tickCount = s.tickCount + 1 := rfl
@[simp] theorem addSp_tickCount (e : Byte) : (addSp e s).tickCount = s.tickCount + 2 := rfl
@[simp] theorem ldHlSp_tickCount (e : Byte) : (ldHlSp e s).tickCount = s.tickCount + 1 := rfl
@[simp] theorem shiftOpnd_tickCount (op : ShiftOp) (o : Opnd8) :
    (shiftOpnd op o s).tickCount = s.tickCount + (readCycles o + readCycles o) := by
  simp [shiftOpnd, writeOpnd_tickCount, readOpnd_tickCount, Nat.add_assoc]
@[simp] theorem bitOpnd_tickCount (b : Fin 8) (o : Opnd8) :
    (bitOpnd b o s).tickCount = s.tickCount + readCycles o := by simp [bitOpnd, readOpnd_tickCount]
@[simp] theorem resOpnd_tickCount (b : Fin 8) (o : Opnd8) :
    (resOpnd b o s).tickCount = s.tickCount + (readCycles o + readCycles o) := by
  simp [resOpnd, writeOpnd_tickCount, readOpnd_tickCount, Nat.add_assoc]
@[simp] theorem setOpnd_tickCount (b : Fin 8) (o : Opnd8) :
    (setOpnd b o s).tickCount = s.tickCount + (readCycles o + readCycles o) := by
  simp [setOpnd, writeOpnd_tickCount, readOpnd_tickCount, Nat.add_assoc]

@[simp] theorem jp_tickCount (a : Word) : (jp a s).tickCount = s.tickCount + 1 := rfl
@[simp] theorem jr_tickCount (e : Byte) : (jr e s).tickCount = s.tickCount + 1 := rfl
@[simp] theorem call_tickCount (a : Word) : (call a s).tickCount = s.tickCount + 3 := by simp [call]
@[simp] theorem rst_tickCount (y : Fin 8) : (rst y s).tickCount = s.tickCount + 3 := by simp [rst]
@[simp] theorem ret_tickCount : (ret s).tickCount = s.tickCount + 3 := by simp [ret]
@[simp] theorem reti_tickCount : (reti s).tickCount = s.tickCount + 3 := by simp [reti]
@[simp] theorem jpIf_tickCount (cc : Cond) (a : Word) :
    (jpIf cc a s).tickCount = s.tickCount + if condHolds cc s.cpu.f then 1 else 0 := by
  unfold jpIf; split <;> simp
@[simp] theorem jrIf_tickCount (cc : Cond) (e : Byte) :
    (jrIf cc e s).tickCount = s.tickCount + if condHolds cc s.cpu.f then 1 else 0 := by
  unfold jrIf; split <;> simp
@[simp] theorem callIf_tickCount (cc : Cond) (a : Word) :
    (callIf cc a s).tickCount = s.tickCount + if condHolds cc s.cpu.f then 3 else 0 := by
  unfold callIf; split <;> simp
@[simp] theorem retIf_tickCount (cc : Cond) :
    (retIf cc s).tickCount = s.tickCount + ((if condHolds cc s.cpu.f then 3 else 0) + 1) := by
  unfold retIf; split <;> simp [Nat.add_assoc]

end Sys2Proof.Machine
end

