-- ==== Sys2Proof/Tests/Slice0.lean ====
section
/-! SUPPORT. The model's own tests: what the well-formedness check refuses, every opcode's decoding, one-step
vectors of the spec, and for each obligation with hypotheses a named witness that meets them. -/

namespace Sys2Proof.Tests

set_option Elab.async false

open Sys2Proof.Machine

/-! ## The well-formedness check refuses an ill-formed term -/

/-- 0x00 is NOP's byte, so no undefined opcode carries it (spec/30_encoding.md R181). -/
theorem test_undefined_00_refused : (Instr.undefined 0x00).wellFormed = false := by decide

/-- 0xCB is the prefix, not an undefined opcode (spec/30_encoding.md R181, R182). -/
theorem test_undefined_CB_refused : (Instr.undefined 0xCB).wellFormed = false := by decide

theorem test_undefined_D3_accepted : (Instr.undefined 0xD3).wellFormed = true := by decide

/-! ## Decoding: the bytes of spec/opcode_table.json, operand bytes 0x5A (n8, e8) and 0x5A 0xA5 (n16, low byte
first), row by row of the two maps of spec/30_encoding.md R179 and R180 -/

/-- The one instruction the bytes hold, if they hold no more. -/
def decodeAll (bs : List Byte) : Option Instr :=
  match decode bs with
  | .ok (i, []) => some i
  | _ => none

theorem test_decode_0 :
    List.map decodeAll
      [[0x00], [0x01, 0x5A, 0xA5], [0x02], [0x03], [0x04], [0x05], [0x06, 0x5A], [0x07],
       [0x08, 0x5A, 0xA5], [0x09], [0x0A], [0x0B], [0x0C], [0x0D], [0x0E, 0x5A], [0x0F]] =
    List.map some
      [.nop, .ldBcN16 0xA55A, .ldIndBcA, .incBc, .incB, .decB, .ldBN8 0x5A, .rlca, .ldIndN16Sp 0xA55A,
       .addHlBc, .ldAIndBc, .decBc, .incC, .decC, .ldCN8 0x5A, .rrca] := by
  decide +kernel

theorem test_decode_1 :
    List.map decodeAll
      [[0x10], [0x11, 0x5A, 0xA5], [0x12], [0x13], [0x14], [0x15], [0x16, 0x5A], [0x17], [0x18, 0x5A],
       [0x19], [0x1A], [0x1B], [0x1C], [0x1D], [0x1E, 0x5A], [0x1F]] =
    List.map some
      [.stop, .ldDeN16 0xA55A, .ldIndDeA, .incDe, .incD, .decD, .ldDN8 0x5A, .rla, .jrE8 0x5A, .addHlDe,
       .ldAIndDe, .decDe, .incE, .decE, .ldEN8 0x5A, .rra] := by
  decide +kernel

theorem test_decode_2 :
    List.map decodeAll
      [[0x20, 0x5A], [0x21, 0x5A, 0xA5], [0x22], [0x23], [0x24], [0x25], [0x26, 0x5A], [0x27],
       [0x28, 0x5A], [0x29], [0x2A], [0x2B], [0x2C], [0x2D], [0x2E, 0x5A], [0x2F]] =
    List.map some
      [.jrNzE8 0x5A, .ldHlN16 0xA55A, .ldIndHliA, .incHl, .incH, .decH, .ldHN8 0x5A, .daa, .jrZE8 0x5A,
       .addHlHl, .ldAIndHli, .decHl, .incL, .decL, .ldLN8 0x5A, .cpl] := by
  decide +kernel

theorem test_decode_3 :
    List.map decodeAll
      [[0x30, 0x5A], [0x31, 0x5A, 0xA5], [0x32], [0x33], [0x34], [0x35], [0x36, 0x5A], [0x37],
       [0x38, 0x5A], [0x39], [0x3A], [0x3B], [0x3C], [0x3D], [0x3E, 0x5A], [0x3F]] =
    List.map some
      [.jrNcE8 0x5A, .ldSpN16 0xA55A, .ldIndHldA, .incSp, .incIndHl, .decIndHl, .ldIndHlN8 0x5A, .scf,
       .jrCE8 0x5A, .addHlSp, .ldAIndHld, .decSp, .incA, .decA, .ldAN8 0x5A, .ccf] := by
  decide +kernel

theorem test_decode_4 :
    List.map decodeAll
      [[0x40], [0x41], [0x42], [0x43], [0x44], [0x45], [0x46], [0x47], [0x48], [0x49], [0x4A], [0x4B],
       [0x4C], [0x4D], [0x4E], [0x4F]] =
    List.map some
      [.ldBB, .ldBC, .ldBD, .ldBE, .ldBH, .ldBL, .ldBIndHl, .ldBA, .ldCB, .ldCC, .ldCD, .ldCE, .ldCH,
       .ldCL, .ldCIndHl, .ldCA] := by
  decide +kernel

theorem test_decode_5 :
    List.map decodeAll
      [[0x50], [0x51], [0x52], [0x53], [0x54], [0x55], [0x56], [0x57], [0x58], [0x59], [0x5A], [0x5B],
       [0x5C], [0x5D], [0x5E], [0x5F]] =
    List.map some
      [.ldDB, .ldDC, .ldDD, .ldDE, .ldDH, .ldDL, .ldDIndHl, .ldDA, .ldEB, .ldEC, .ldED, .ldEE, .ldEH,
       .ldEL, .ldEIndHl, .ldEA] := by
  decide +kernel

theorem test_decode_6 :
    List.map decodeAll
      [[0x60], [0x61], [0x62], [0x63], [0x64], [0x65], [0x66], [0x67], [0x68], [0x69], [0x6A], [0x6B],
       [0x6C], [0x6D], [0x6E], [0x6F]] =
    List.map some
      [.ldHB, .ldHC, .ldHD, .ldHE, .ldHH, .ldHL, .ldHIndHl, .ldHA, .ldLB, .ldLC, .ldLD, .ldLE, .ldLH,
       .ldLL, .ldLIndHl, .ldLA] := by
  decide +kernel

theorem test_decode_7 :
    List.map decodeAll
      [[0x70], [0x71], [0x72], [0x73], [0x74], [0x75], [0x76], [0x77], [0x78], [0x79], [0x7A], [0x7B],
       [0x7C], [0x7D], [0x7E], [0x7F]] =
    List.map some
      [.ldIndHlB, .ldIndHlC, .ldIndHlD, .ldIndHlE, .ldIndHlH, .ldIndHlL, .halt, .ldIndHlA, .ldAB, .ldAC,
       .ldAD, .ldAE, .ldAH, .ldAL, .ldAIndHl, .ldAA] := by
  decide +kernel

theorem test_decode_8 :
    List.map decodeAll
      [[0x80], [0x81], [0x82], [0x83], [0x84], [0x85], [0x86], [0x87], [0x88], [0x89], [0x8A], [0x8B],
       [0x8C], [0x8D], [0x8E], [0x8F]] =
    List.map some
      [.addAB, .addAC, .addAD, .addAE, .addAH, .addAL, .addAIndHl, .addAA, .adcAB, .adcAC, .adcAD, .adcAE,
       .adcAH, .adcAL, .adcAIndHl, .adcAA] := by
  decide +kernel

theorem test_decode_9 :
    List.map decodeAll
      [[0x90], [0x91], [0x92], [0x93], [0x94], [0x95], [0x96], [0x97], [0x98], [0x99], [0x9A], [0x9B],
       [0x9C], [0x9D], [0x9E], [0x9F]] =
    List.map some
      [.subB, .subC, .subD, .subE, .subH, .subL, .subIndHl, .subA, .sbcAB, .sbcAC, .sbcAD, .sbcAE, .sbcAH,
       .sbcAL, .sbcAIndHl, .sbcAA] := by
  decide +kernel

theorem test_decode_A :
    List.map decodeAll
      [[0xA0], [0xA1], [0xA2], [0xA3], [0xA4], [0xA5], [0xA6], [0xA7], [0xA8], [0xA9], [0xAA], [0xAB],
       [0xAC], [0xAD], [0xAE], [0xAF]] =
    List.map some
      [.andB, .andC, .andD, .andE, .andH, .andL, .andIndHl, .andA, .xorB, .xorC, .xorD, .xorE, .xorH,
       .xorL, .xorIndHl, .xorA] := by
  decide +kernel

theorem test_decode_B :
    List.map decodeAll
      [[0xB0], [0xB1], [0xB2], [0xB3], [0xB4], [0xB5], [0xB6], [0xB7], [0xB8], [0xB9], [0xBA], [0xBB],
       [0xBC], [0xBD], [0xBE], [0xBF]] =
    List.map some
      [.orB, .orC, .orD, .orE, .orH, .orL, .orIndHl, .orA, .cpB, .cpC, .cpD, .cpE, .cpH, .cpL, .cpIndHl,
       .cpA] := by
  decide +kernel

theorem test_decode_C :
    List.map decodeAll
      [[0xC0], [0xC1], [0xC2, 0x5A, 0xA5], [0xC3, 0x5A, 0xA5], [0xC4, 0x5A, 0xA5], [0xC5], [0xC6, 0x5A],
       [0xC7], [0xC8], [0xC9], [0xCA, 0x5A, 0xA5], [0xCC, 0x5A, 0xA5], [0xCD, 0x5A, 0xA5], [0xCE, 0x5A],
       [0xCF]] =
    List.map some
      [.retNz, .popBc, .jpNzN16 0xA55A, .jpN16 0xA55A, .callNzN16 0xA55A, .pushBc, .addAN8 0x5A, .rst00,
       .retZ, .ret, .jpZN16 0xA55A, .callZN16 0xA55A, .callN16 0xA55A, .adcAN8 0x5A, .rst08] := by
  decide +kernel

theorem test_decode_D :
    List.map decodeAll
      [[0xD0], [0xD1], [0xD2, 0x5A, 0xA5], [0xD3], [0xD4, 0x5A, 0xA5], [0xD5], [0xD6, 0x5A], [0xD7],
       [0xD8], [0xD9], [0xDA, 0x5A, 0xA5], [0xDB], [0xDC, 0x5A, 0xA5], [0xDD], [0xDE, 0x5A], [0xDF]] =
    List.map some
      [.retNc, .popDe, .jpNcN16 0xA55A, .undefined 0xD3, .callNcN16 0xA55A, .pushDe, .subN8 0x5A, .rst10,
       .retC, .reti, .jpCN16 0xA55A, .undefined 0xDB, .callCN16 0xA55A, .undefined 0xDD, .sbcAN8 0x5A,
       .rst18] := by
  decide +kernel

theorem test_decode_E :
    List.map decodeAll
      [[0xE0, 0x5A], [0xE1], [0xE2], [0xE3], [0xE4], [0xE5], [0xE6, 0x5A], [0xE7], [0xE8, 0x5A], [0xE9],
       [0xEA, 0x5A, 0xA5], [0xEB], [0xEC], [0xED], [0xEE, 0x5A], [0xEF]] =
    List.map some
      [.ldhIndN8A 0x5A, .popHl, .ldhIndCA, .undefined 0xE3, .undefined 0xE4, .pushHl, .andN8 0x5A, .rst20,
       .addSpE8 0x5A, .jpHl, .ldIndN16A 0xA55A, .undefined 0xEB, .undefined 0xEC, .undefined 0xED,
       .xorN8 0x5A, .rst28] := by
  decide +kernel

theorem test_decode_F :
    List.map decodeAll
      [[0xF0, 0x5A], [0xF1], [0xF2], [0xF3], [0xF4], [0xF5], [0xF6, 0x5A], [0xF7], [0xF8, 0x5A], [0xF9],
       [0xFA, 0x5A, 0xA5], [0xFB], [0xFC], [0xFD], [0xFE, 0x5A], [0xFF]] =
    List.map some
      [.ldhAIndN8 0x5A, .popAf, .ldhAIndC, .di, .undefined 0xF4, .pushAf, .orN8 0x5A, .rst30,
       .ldHlSpE8 0x5A, .ldSpHl, .ldAIndN16 0xA55A, .ei, .undefined 0xFC, .undefined 0xFD, .cpN8 0x5A,
       .rst38] := by
  decide +kernel

theorem test_decode_CB_0 :
    List.map decodeAll
      [[0xCB, 0x00], [0xCB, 0x01], [0xCB, 0x02], [0xCB, 0x03], [0xCB, 0x04], [0xCB, 0x05], [0xCB, 0x06],
       [0xCB, 0x07], [0xCB, 0x08], [0xCB, 0x09], [0xCB, 0x0A], [0xCB, 0x0B], [0xCB, 0x0C], [0xCB, 0x0D],
       [0xCB, 0x0E], [0xCB, 0x0F]] =
    List.map some
      [.rlcB, .rlcC, .rlcD, .rlcE, .rlcH, .rlcL, .rlcIndHl, .rlcA, .rrcB, .rrcC, .rrcD, .rrcE, .rrcH,
       .rrcL, .rrcIndHl, .rrcA] := by
  decide +kernel

theorem test_decode_CB_1 :
    List.map decodeAll
      [[0xCB, 0x10], [0xCB, 0x11], [0xCB, 0x12], [0xCB, 0x13], [0xCB, 0x14], [0xCB, 0x15], [0xCB, 0x16],
       [0xCB, 0x17], [0xCB, 0x18], [0xCB, 0x19], [0xCB, 0x1A], [0xCB, 0x1B], [0xCB, 0x1C], [0xCB, 0x1D],
       [0xCB, 0x1E], [0xCB, 0x1F]] =
    List.map some
      [.rlB, .rlC, .rlD, .rlE, .rlH, .rlL, .rlIndHl, .rlA, .rrB, .rrC, .rrD, .rrE, .rrH, .rrL, .rrIndHl,
       .rrA] := by
  decide +kernel

theorem test_decode_CB_2 :
    List.map decodeAll
      [[0xCB, 0x20], [0xCB, 0x21], [0xCB, 0x22], [0xCB, 0x23], [0xCB, 0x24], [0xCB, 0x25], [0xCB, 0x26],
       [0xCB, 0x27], [0xCB, 0x28], [0xCB, 0x29], [0xCB, 0x2A], [0xCB, 0x2B], [0xCB, 0x2C], [0xCB, 0x2D],
       [0xCB, 0x2E], [0xCB, 0x2F]] =
    List.map some
      [.slaB, .slaC, .slaD, .slaE, .slaH, .slaL, .slaIndHl, .slaA, .sraB, .sraC, .sraD, .sraE, .sraH,
       .sraL, .sraIndHl, .sraA] := by
  decide +kernel

theorem test_decode_CB_3 :
    List.map decodeAll
      [[0xCB, 0x30], [0xCB, 0x31], [0xCB, 0x32], [0xCB, 0x33], [0xCB, 0x34], [0xCB, 0x35], [0xCB, 0x36],
       [0xCB, 0x37], [0xCB, 0x38], [0xCB, 0x39], [0xCB, 0x3A], [0xCB, 0x3B], [0xCB, 0x3C], [0xCB, 0x3D],
       [0xCB, 0x3E], [0xCB, 0x3F]] =
    List.map some
      [.swapB, .swapC, .swapD, .swapE, .swapH, .swapL, .swapIndHl, .swapA, .srlB, .srlC, .srlD, .srlE,
       .srlH, .srlL, .srlIndHl, .srlA] := by
  decide +kernel

theorem test_decode_CB_4 :
    List.map decodeAll
      [[0xCB, 0x40], [0xCB, 0x41], [0xCB, 0x42], [0xCB, 0x43], [0xCB, 0x44], [0xCB, 0x45], [0xCB, 0x46],
       [0xCB, 0x47], [0xCB, 0x48], [0xCB, 0x49], [0xCB, 0x4A], [0xCB, 0x4B], [0xCB, 0x4C], [0xCB, 0x4D],
       [0xCB, 0x4E], [0xCB, 0x4F]] =
    List.map some
      [.bit0B, .bit0C, .bit0D, .bit0E, .bit0H, .bit0L, .bit0IndHl, .bit0A, .bit1B, .bit1C, .bit1D, .bit1E,
       .bit1H, .bit1L, .bit1IndHl, .bit1A] := by
  decide +kernel

theorem test_decode_CB_5 :
    List.map decodeAll
      [[0xCB, 0x50], [0xCB, 0x51], [0xCB, 0x52], [0xCB, 0x53], [0xCB, 0x54], [0xCB, 0x55], [0xCB, 0x56],
       [0xCB, 0x57], [0xCB, 0x58], [0xCB, 0x59], [0xCB, 0x5A], [0xCB, 0x5B], [0xCB, 0x5C], [0xCB, 0x5D],
       [0xCB, 0x5E], [0xCB, 0x5F]] =
    List.map some
      [.bit2B, .bit2C, .bit2D, .bit2E, .bit2H, .bit2L, .bit2IndHl, .bit2A, .bit3B, .bit3C, .bit3D, .bit3E,
       .bit3H, .bit3L, .bit3IndHl, .bit3A] := by
  decide +kernel

theorem test_decode_CB_6 :
    List.map decodeAll
      [[0xCB, 0x60], [0xCB, 0x61], [0xCB, 0x62], [0xCB, 0x63], [0xCB, 0x64], [0xCB, 0x65], [0xCB, 0x66],
       [0xCB, 0x67], [0xCB, 0x68], [0xCB, 0x69], [0xCB, 0x6A], [0xCB, 0x6B], [0xCB, 0x6C], [0xCB, 0x6D],
       [0xCB, 0x6E], [0xCB, 0x6F]] =
    List.map some
      [.bit4B, .bit4C, .bit4D, .bit4E, .bit4H, .bit4L, .bit4IndHl, .bit4A, .bit5B, .bit5C, .bit5D, .bit5E,
       .bit5H, .bit5L, .bit5IndHl, .bit5A] := by
  decide +kernel

theorem test_decode_CB_7 :
    List.map decodeAll
      [[0xCB, 0x70], [0xCB, 0x71], [0xCB, 0x72], [0xCB, 0x73], [0xCB, 0x74], [0xCB, 0x75], [0xCB, 0x76],
       [0xCB, 0x77], [0xCB, 0x78], [0xCB, 0x79], [0xCB, 0x7A], [0xCB, 0x7B], [0xCB, 0x7C], [0xCB, 0x7D],
       [0xCB, 0x7E], [0xCB, 0x7F]] =
    List.map some
      [.bit6B, .bit6C, .bit6D, .bit6E, .bit6H, .bit6L, .bit6IndHl, .bit6A, .bit7B, .bit7C, .bit7D, .bit7E,
       .bit7H, .bit7L, .bit7IndHl, .bit7A] := by
  decide +kernel

theorem test_decode_CB_8 :
    List.map decodeAll
      [[0xCB, 0x80], [0xCB, 0x81], [0xCB, 0x82], [0xCB, 0x83], [0xCB, 0x84], [0xCB, 0x85], [0xCB, 0x86],
       [0xCB, 0x87], [0xCB, 0x88], [0xCB, 0x89], [0xCB, 0x8A], [0xCB, 0x8B], [0xCB, 0x8C], [0xCB, 0x8D],
       [0xCB, 0x8E], [0xCB, 0x8F]] =
    List.map some
      [.res0B, .res0C, .res0D, .res0E, .res0H, .res0L, .res0IndHl, .res0A, .res1B, .res1C, .res1D, .res1E,
       .res1H, .res1L, .res1IndHl, .res1A] := by
  decide +kernel

theorem test_decode_CB_9 :
    List.map decodeAll
      [[0xCB, 0x90], [0xCB, 0x91], [0xCB, 0x92], [0xCB, 0x93], [0xCB, 0x94], [0xCB, 0x95], [0xCB, 0x96],
       [0xCB, 0x97], [0xCB, 0x98], [0xCB, 0x99], [0xCB, 0x9A], [0xCB, 0x9B], [0xCB, 0x9C], [0xCB, 0x9D],
       [0xCB, 0x9E], [0xCB, 0x9F]] =
    List.map some
      [.res2B, .res2C, .res2D, .res2E, .res2H, .res2L, .res2IndHl, .res2A, .res3B, .res3C, .res3D, .res3E,
       .res3H, .res3L, .res3IndHl, .res3A] := by
  decide +kernel

theorem test_decode_CB_A :
    List.map decodeAll
      [[0xCB, 0xA0], [0xCB, 0xA1], [0xCB, 0xA2], [0xCB, 0xA3], [0xCB, 0xA4], [0xCB, 0xA5], [0xCB, 0xA6],
       [0xCB, 0xA7], [0xCB, 0xA8], [0xCB, 0xA9], [0xCB, 0xAA], [0xCB, 0xAB], [0xCB, 0xAC], [0xCB, 0xAD],
       [0xCB, 0xAE], [0xCB, 0xAF]] =
    List.map some
      [.res4B, .res4C, .res4D, .res4E, .res4H, .res4L, .res4IndHl, .res4A, .res5B, .res5C, .res5D, .res5E,
       .res5H, .res5L, .res5IndHl, .res5A] := by
  decide +kernel

theorem test_decode_CB_B :
    List.map decodeAll
      [[0xCB, 0xB0], [0xCB, 0xB1], [0xCB, 0xB2], [0xCB, 0xB3], [0xCB, 0xB4], [0xCB, 0xB5], [0xCB, 0xB6],
       [0xCB, 0xB7], [0xCB, 0xB8], [0xCB, 0xB9], [0xCB, 0xBA], [0xCB, 0xBB], [0xCB, 0xBC], [0xCB, 0xBD],
       [0xCB, 0xBE], [0xCB, 0xBF]] =
    List.map some
      [.res6B, .res6C, .res6D, .res6E, .res6H, .res6L, .res6IndHl, .res6A, .res7B, .res7C, .res7D, .res7E,
       .res7H, .res7L, .res7IndHl, .res7A] := by
  decide +kernel

theorem test_decode_CB_C :
    List.map decodeAll
      [[0xCB, 0xC0], [0xCB, 0xC1], [0xCB, 0xC2], [0xCB, 0xC3], [0xCB, 0xC4], [0xCB, 0xC5], [0xCB, 0xC6],
       [0xCB, 0xC7], [0xCB, 0xC8], [0xCB, 0xC9], [0xCB, 0xCA], [0xCB, 0xCB], [0xCB, 0xCC], [0xCB, 0xCD],
       [0xCB, 0xCE], [0xCB, 0xCF]] =
    List.map some
      [.set0B, .set0C, .set0D, .set0E, .set0H, .set0L, .set0IndHl, .set0A, .set1B, .set1C, .set1D, .set1E,
       .set1H, .set1L, .set1IndHl, .set1A] := by
  decide +kernel

theorem test_decode_CB_D :
    List.map decodeAll
      [[0xCB, 0xD0], [0xCB, 0xD1], [0xCB, 0xD2], [0xCB, 0xD3], [0xCB, 0xD4], [0xCB, 0xD5], [0xCB, 0xD6],
       [0xCB, 0xD7], [0xCB, 0xD8], [0xCB, 0xD9], [0xCB, 0xDA], [0xCB, 0xDB], [0xCB, 0xDC], [0xCB, 0xDD],
       [0xCB, 0xDE], [0xCB, 0xDF]] =
    List.map some
      [.set2B, .set2C, .set2D, .set2E, .set2H, .set2L, .set2IndHl, .set2A, .set3B, .set3C, .set3D, .set3E,
       .set3H, .set3L, .set3IndHl, .set3A] := by
  decide +kernel

theorem test_decode_CB_E :
    List.map decodeAll
      [[0xCB, 0xE0], [0xCB, 0xE1], [0xCB, 0xE2], [0xCB, 0xE3], [0xCB, 0xE4], [0xCB, 0xE5], [0xCB, 0xE6],
       [0xCB, 0xE7], [0xCB, 0xE8], [0xCB, 0xE9], [0xCB, 0xEA], [0xCB, 0xEB], [0xCB, 0xEC], [0xCB, 0xED],
       [0xCB, 0xEE], [0xCB, 0xEF]] =
    List.map some
      [.set4B, .set4C, .set4D, .set4E, .set4H, .set4L, .set4IndHl, .set4A, .set5B, .set5C, .set5D, .set5E,
       .set5H, .set5L, .set5IndHl, .set5A] := by
  decide +kernel

theorem test_decode_CB_F :
    List.map decodeAll
      [[0xCB, 0xF0], [0xCB, 0xF1], [0xCB, 0xF2], [0xCB, 0xF3], [0xCB, 0xF4], [0xCB, 0xF5], [0xCB, 0xF6],
       [0xCB, 0xF7], [0xCB, 0xF8], [0xCB, 0xF9], [0xCB, 0xFA], [0xCB, 0xFB], [0xCB, 0xFC], [0xCB, 0xFD],
       [0xCB, 0xFE], [0xCB, 0xFF]] =
    List.map some
      [.set6B, .set6C, .set6D, .set6E, .set6H, .set6L, .set6IndHl, .set6A, .set7B, .set7C, .set7D, .set7E,
       .set7H, .set7L, .set7IndHl, .set7A] := by
  decide +kernel

/-- The prefix alone decodes to PREFIX_CB (log entry 11), and no bytes to nothing. -/
theorem test_decode_prefix : decodeAll [0xCB] = some .prefixCb ∧ decodeAll [] = none := by decide +kernel

/-- The table's numbering: bits 7..0 are the first byte, but a CB row's 16-bit match has 0xCB in its high byte
(log entry 13). -/
theorem test_decodeTableWord :
    decodeTableWord 8 0x41 = some .ldBC ∧ decodeTableWord 8 0xCD = some (.callN16 0) ∧
      decodeTableWord 16 0xCB7C = some .bit7H ∧ decodeTableWord 8 0xCB = some .prefixCb := by
  decide +kernel

/-! ## One step: vectors of spec/95_test_vectors.md, section 2 -/

/-- The spec's initial state of a vector: code at 0xC000 (PC), SP 0xFFFE, the overlay off, some bytes stored. -/
def vector (code : List Byte) (mem : List (Word × Byte)) (f : Cpu → Cpu) : State :=
  let s : State := { State.reset with bootDisabled := true }
  mem.foldl (fun s c => busWrite s c.1 c.2)
    (placeBytes 0xC000 code (mapCpu (fun c => f { c with pc := 0xC000, sp := 0xFFFE }) s))

/-- The state after one step. -/
def after (s : State) : State :=
  match step s with
  | .next t => t
  | .fault _ => s
  | .refused _ => s

/-- R200: LD B,C. -/
theorem test_LD_B_C :
    let t := after (vector [0x41] [] (fun c => { c with c := 0x5A }))
    (t.cpu.b, t.cpu.pc, t.tickCount) =
      (0x5A, 0xC001, 1) := by
  decide +kernel

/-- R201: LD D,n8. -/
theorem test_LD_D_n8 :
    let t := after (vector [0x16, 0x3C] [] id)
    (t.cpu.d, t.cpu.pc, t.tickCount) =
      (0x3C, 0xC002, 2) := by
  decide +kernel

/-- R202: LD A,(HL). -/
theorem test_LD_A_HL :
    let t := after (vector [0x7E] [(0xC100, 0x5C)] (fun c => { c with h := 0xC1, l := 0x00 }))
    (t.cpu.a, t.cpu.pc, t.tickCount) =
      (0x5C, 0xC001, 2) := by
  decide +kernel

/-- R203: LD (HL),H. -/
theorem test_LD_HL_H :
    let t := after (vector [0x74] [] (fun c => { c with h := 0xC1, l := 0x23 }))
    (busRead t 0xC123, t.cpu.pc, t.tickCount) =
      (0xC1, 0xC001, 2) := by
  decide +kernel

/-- R204: LD (HL),n8. -/
theorem test_LD_HL_n8 :
    let t := after (vector [0x36, 0x77] [] (fun c => { c with h := 0xC1, l := 0x00 }))
    (busRead t 0xC100, t.cpu.pc, t.tickCount) =
      (0x77, 0xC002, 3) := by
  decide +kernel

/-- R205: LD A,(DE). -/
theorem test_LD_A_DE :
    let t := after (vector [0x1A] [(0xC100, 0x42)] (fun c => { c with d := 0xC1, e := 0x00 }))
    (t.cpu.a, t.cpu.pc, t.tickCount) =
      (0x42, 0xC001, 2) := by
  decide +kernel

/-- R206: LD (BC),A. -/
theorem test_LD_BC_A :
    let t := after (vector [0x02] [] (fun c => { c with a := 0x99, b := 0xC1, c := 0x10 }))
    (busRead t 0xC110, t.cpu.pc, t.tickCount) =
      (0x99, 0xC001, 2) := by
  decide +kernel

/-- R207: LD A,(HL+) at 0xFFFF (reads IE, HL wraps). -/
theorem test_LD_A_HLI_at_0xFFFF_reads_IE_HL_wraps :
    let t := after (vector [0x2A] [(0xFFFF, 0x1F)] (fun c => { c with h := 0xFF, l := 0xFF }))
    (t.cpu.a, t.cpu.h, t.cpu.l, t.cpu.pc, t.tickCount) =
      (0x1F, 0x00, 0x00, 0xC001, 2) := by
  decide +kernel

/-- R208: LD A,(HL-) at 0x0000 (HL wraps down). -/
theorem test_LD_A_HLD_at_0x0000_HL_wraps_down :
    let t := after (vector [0x3A] [] (fun c => { c with h := 0x00, l := 0x00 }))
    (t.cpu.a, t.cpu.h, t.cpu.l, t.tickCount) =
      (0x00, 0xFF, 0xFF, 2) := by
  decide +kernel

/-- R209: LD (HL+),A. -/
theorem test_LD_HLI_A :
    let t := after (vector [0x22] [] (fun c => { c with a := 0x11, h := 0xC1, l := 0xFF }))
    (busRead t 0xC1FF, t.cpu.h, t.cpu.l, t.tickCount) =
      (0x11, 0xC2, 0x00, 2) := by
  decide +kernel

/-- R210: LD (HL-),A. -/
theorem test_LD_HLD_A :
    let t := after (vector [0x32] [] (fun c => { c with a := 0x42, h := 0xC1, l := 0x00 }))
    (busRead t 0xC100, t.cpu.h, t.cpu.l, t.cpu.pc, t.tickCount) =
      (0x42, 0xC0, 0xFF, 0xC001, 2) := by
  decide +kernel

/-- R211: LD BC,n16 (little-endian immediate). -/
theorem test_LD_BC_n16_little_endian_immediate :
    let t := after (vector [0x01, 0x34, 0x12] [] id)
    (t.cpu.b, t.cpu.c, t.cpu.pc, t.tickCount) =
      (0x12, 0x34, 0xC003, 3) := by
  decide +kernel

/-- R212, R116: LD (n16),SP at n16=0xFFFF. -/
theorem test_LD_n16_SP_at_n16_0xFFFF :
    let t := after (vector [0x08, 0xFF, 0xFF] [] (fun c => { c with sp := 0xABCD }))
    (busRead t 0xFFFF, t.tickCount) =
      (0xCD, 5) := by
  decide +kernel

/-- R219: LD SP,HL. -/
theorem test_LD_SP_HL :
    let t := after (vector [0xF9] [] (fun c => { c with h := 0xD0, l := 0x00 }))
    (t.cpu.sp, t.cpu.pc, t.tickCount) =
      (0xD000, 0xC001, 2) := by
  decide +kernel

/-- R213: LD A,(n16). -/
theorem test_LD_A_n16 :
    let t := after (vector [0xFA, 0x00, 0xC1] [(0xC100, 0x5C)] id)
    (t.cpu.a, t.cpu.pc, t.tickCount) =
      (0x5C, 0xC003, 4) := by
  decide +kernel

/-- R214, R108: LD (n16),A into the mirror. -/
theorem test_LD_n16_A_into_the_mirror :
    let t := after (vector [0xEA, 0x00, 0xE1] [] (fun c => { c with a := 0x66 }))
    (busRead t 0xE100, busRead t 0xC100, t.cpu.pc, t.tickCount) =
      (0x66, 0x66, 0xC003, 4) := by
  decide +kernel

/-- R215, R44: LDH A,(n8) reading IF. -/
theorem test_LDH_A_n8_reading_IF :
    let t := after (vector [0xF0, 0x0F] [(0xFF0F, 0x05)] id)
    (t.cpu.a, t.cpu.pc, t.tickCount) =
      (0xE5, 0xC002, 3) := by
  decide +kernel

/-- R216: LDH (n8),A to LY (read only). -/
theorem test_LDH_n8_A_to_LY_read_only :
    let t := after (vector [0xE0, 0x44] [] (fun c => { c with a := 0x12 }))
    (busRead t 0xFF44, t.tickCount) =
      (0x00, 3) := by
  decide +kernel

/-- R217, R107: LDH A,(C), unused 0xFF03. -/
theorem test_LDH_A_C_unused_0xFF03 :
    let t := after (vector [0xF2] [] (fun c => { c with c := 0x03 }))
    (t.cpu.a, t.cpu.pc, t.tickCount) =
      (0xFF, 0xC001, 2) := by
  decide +kernel

/-- R218: LDH (C),A to HRAM. -/
theorem test_LDH_C_A_to_HRAM :
    let t := after (vector [0xE2] [] (fun c => { c with a := 0x12, c := 0x80 }))
    (busRead t 0xFF80, t.cpu.pc, t.tickCount) =
      (0x12, 0xC001, 2) := by
  decide +kernel

/-- R220: PUSH BC. -/
theorem test_PUSH_BC :
    let t := after (vector [0xC5] [] (fun c => { c with b := 0x12, c := 0x34 }))
    (t.cpu.sp, busRead t 0xFFFD, busRead t 0xFFFC, t.cpu.pc, t.tickCount) =
      (0xFFFC, 0x12, 0x34, 0xC001, 4) := by
  decide +kernel

/-- R221: PUSH AF. -/
theorem test_PUSH_AF :
    let t := after (vector [0xF5] [] (fun c => { c with a := 0x01, f := 0xB0 }))
    (t.cpu.sp, busRead t 0xFFFD, busRead t 0xFFFC, t.tickCount) =
      (0xFFFC, 0x01, 0xB0, 4) := by
  decide +kernel

/-- R223, R116: POP DE with SP = 0xFFFF (wrap). -/
theorem test_POP_DE_with_SP_0xFFFF_wrap :
    let t := after (vector [0xD1] [(0xFFFF, 0x34)] (fun c => { c with sp := 0xFFFF }))
    (t.cpu.e, t.cpu.d, t.cpu.sp, t.tickCount) =
      (0x34, 0x00, 0x0001, 3) := by
  decide +kernel

/-- R224: POP AF masks F[3:0]. -/
theorem test_POP_AF_masks_F_3_0 :
    let t := after (vector [0xF1] [(0xC100, 0xFF), (0xC101, 0x12)] (fun c => { c with sp := 0xC100 }))
    (t.cpu.a, t.cpu.f, t.cpu.sp, t.tickCount) =
      (0x12, 0xF0, 0xC102, 3) := by
  decide +kernel

/-- R251: ADD A,B: carry and zero. -/
theorem test_ADD_A_B_carry_and_zero :
    let t := after (vector [0x80] [] (fun c => { c with a := 0x3A, b := 0xC6 }))
    (t.cpu.a, t.cpu.f, t.tickCount) =
      (0x00, 0xB0, 1) := by
  decide +kernel

/-- R252: ADD A,(HL). -/
theorem test_ADD_A_HL :
    let t := after (vector [0x86] [(0xC100, 0xFF)] (fun c => { c with a := 0x01, h := 0xC1, l := 0x00 }))
    (t.cpu.a, t.cpu.f, t.tickCount) =
      (0x00, 0xB0, 2) := by
  decide +kernel

/-- R253: ADD A,n8. -/
theorem test_ADD_A_n8 :
    let t := after (vector [0xC6, 0x01] [] (fun c => { c with a := 0xFE }))
    (t.cpu.a, t.cpu.f, t.tickCount) =
      (0xFF, 0x00, 2) := by
  decide +kernel

/-- R256: ADC A,n8 with C=1, to zero. -/
theorem test_ADC_A_n8_with_C_1_to_zero :
    let t := after (vector [0xCE, 0xFF] [] (fun c => { c with a := 0x00, f := 0x10 }))
    (t.cpu.a, t.cpu.f, t.tickCount) =
      (0x00, 0xB0, 2) := by
  decide +kernel

/-- R254: ADC A,B: carry-in makes the half-carry. -/
theorem test_ADC_A_B_carry_in_makes_the_half_carry :
    let t := after (vector [0x88] [] (fun c => { c with a := 0x0E, b := 0x01, f := 0x10 }))
    (t.cpu.a, t.cpu.f, t.tickCount) =
      (0x10, 0x20, 1) := by
  decide +kernel

/-- R257: SUB B: borrow. -/
theorem test_SUB_B_borrow :
    let t := after (vector [0x90] [] (fun c => { c with a := 0x10, b := 0x20 }))
    (t.cpu.a, t.cpu.f, t.tickCount) =
      (0xF0, 0x50, 1) := by
  decide +kernel

/-- R259: SUB n8: half-borrow. -/
theorem test_SUB_n8_half_borrow :
    let t := after (vector [0xD6, 0x01] [] (fun c => { c with a := 0x10 }))
    (t.cpu.a, t.cpu.f, t.tickCount) =
      (0x0F, 0x60, 2) := by
  decide +kernel

/-- R260: SBC A,B with C=1, to 0xFF. -/
theorem test_SBC_A_B_with_C_1_to_0xFF :
    let t := after (vector [0x98] [] (fun c => { c with a := 0x00, b := 0x00, f := 0x10 }))
    (t.cpu.a, t.cpu.f, t.tickCount) =
      (0xFF, 0x70, 1) := by
  decide +kernel

/-- R262: SBC A,n8 with C=1, to zero. -/
theorem test_SBC_A_n8_with_C_1_to_zero :
    let t := after (vector [0xDE, 0x0F] [] (fun c => { c with a := 0x10, f := 0x10 }))
    (t.cpu.a, t.cpu.f, t.tickCount) =
      (0x00, 0xE0, 2) := by
  decide +kernel

/-- R265: AND n8: zero. -/
theorem test_AND_n8_zero :
    let t := after (vector [0xE6, 0x0F] [] (fun c => { c with a := 0xF0 }))
    (t.cpu.a, t.cpu.f, t.tickCount) =
      (0x00, 0xA0, 2) := by
  decide +kernel

/-- R263: AND A: H always set. -/
theorem test_AND_A_H_always_set :
    let t := after (vector [0xA7] [] (fun c => { c with a := 0x81, f := 0x50 }))
    (t.cpu.a, t.cpu.f, t.tickCount) =
      (0x81, 0x20, 1) := by
  decide +kernel

/-- R266: XOR A. -/
theorem test_XOR_A :
    let t := after (vector [0xAF] [] (fun c => { c with a := 0x5A, f := 0x70 }))
    (t.cpu.a, t.cpu.f, t.tickCount) =
      (0x00, 0x80, 1) := by
  decide +kernel

/-- R270: OR (HL): zero. -/
theorem test_OR_HL_zero :
    let t := after (vector [0xB6] [(0xC100, 0x00)] (fun c => { c with a := 0x00, h := 0xC1, l := 0x00 }))
    (t.cpu.a, t.cpu.f, t.tickCount) =
      (0x00, 0x80, 2) := by
  decide +kernel

/-- R274: CP n8: A < n8. -/
theorem test_CP_n8_A_n8 :
    let t := after (vector [0xFE, 0x90] [] (fun c => { c with a := 0x80 }))
    (t.cpu.a, t.cpu.f, t.tickCount) =
      (0x80, 0x50, 2) := by
  decide +kernel

/-- R275: INC A keeps C=1. -/
theorem test_INC_A_keeps_C_1 :
    let t := after (vector [0x3C] [] (fun c => { c with a := 0x00, f := 0x10 }))
    (t.cpu.a, t.cpu.f, t.tickCount) =
      (0x01, 0x10, 1) := by
  decide +kernel

/-- R276: INC (HL) from 0x0F. -/
theorem test_INC_HL_from_0x0F :
    let t := after (vector [0x34] [(0xC100, 0x0F)] (fun c => { c with h := 0xC1, l := 0x00 }))
    (busRead t 0xC100, t.cpu.f, t.tickCount) =
      (0x10, 0x20, 3) := by
  decide +kernel

/-- R277: DEC B from 0x10: half-borrow. -/
theorem test_DEC_B_from_0x10_half_borrow :
    let t := after (vector [0x05] [] (fun c => { c with b := 0x10 }))
    (t.cpu.b, t.cpu.f, t.tickCount) =
      (0x0F, 0x60, 1) := by
  decide +kernel

/-- R278: DEC (HL) to zero. -/
theorem test_DEC_HL_to_zero :
    let t := after (vector [0x35] [(0xC100, 0x01)] (fun c => { c with h := 0xC1, l := 0x00 }))
    (busRead t 0xC100, t.cpu.f, t.tickCount) =
      (0x00, 0xC0, 3) := by
  decide +kernel

/-- R279: DAA after 0x09+0x08 (A=11, F=20). -/
theorem test_DAA_after_0x09_0x08_A_11_F_20 :
    let t := after (vector [0x27] [] (fun c => { c with a := 0x11, f := 0x20 }))
    (t.cpu.a, t.cpu.f, t.tickCount) =
      (0x17, 0x00, 1) := by
  decide +kernel

/-- R280: CPL. -/
theorem test_CPL :
    let t := after (vector [0x2F] [] (fun c => { c with a := 0x0F, f := 0x90 }))
    (t.cpu.a, t.cpu.f, t.tickCount) =
      (0xF0, 0xF0, 1) := by
  decide +kernel

/-- R281: SCF. -/
theorem test_SCF :
    let t := after (vector [0x37] [] (fun c => { c with f := 0x60 }))
    (t.cpu.f, t.tickCount) =
      (0x10, 1) := by
  decide +kernel

/-- R282: CCF with C=1. -/
theorem test_CCF_with_C_1 :
    let t := after (vector [0x3F] [] (fun c => { c with f := 0xB0 }))
    (t.cpu.f, t.tickCount) =
      (0x80, 1) := by
  decide +kernel

/-- R300: INC BC wraps, flags untouched. -/
theorem test_INC_BC_wraps_flags_untouched :
    let t := after (vector [0x03] [] (fun c => { c with b := 0xFF, c := 0xFF, f := 0xF0 }))
    (t.cpu.b, t.cpu.c, t.cpu.f, t.tickCount) =
      (0x00, 0x00, 0xF0, 2) := by
  decide +kernel

/-- R301: DEC SP wraps. -/
theorem test_DEC_SP_wraps :
    let t := after (vector [0x3B] [] (fun c => { c with sp := 0x0000 }))
    (t.cpu.sp, t.tickCount) =
      (0xFFFF, 2) := by
  decide +kernel

/-- R302: ADD HL,DE: carry out of bit 11, Z kept. -/
theorem test_ADD_HL_DE_carry_out_of_bit_11_Z_kept :
    let t := after (vector [0x19] [] (fun c => { c with h := 0x0F, l := 0xFF, d := 0x00, e := 0x01, f := 0x80 }))
    (t.cpu.h, t.cpu.l, t.cpu.f, t.tickCount) =
      (0x10, 0x00, 0xA0, 2) := by
  decide +kernel

/-- R303: ADD SP,e8 with e8 = −128. -/
theorem test_ADD_SP_e8_with_e8_minus_128 :
    let t := after (vector [0xE8, 0x80] [] (fun c => { c with sp := 0x0000, f := 0xF0 }))
    (t.cpu.sp, t.cpu.f, t.tickCount) =
      (0xFF80, 0x00, 4) := by
  decide +kernel

/-- R304: LD HL,SP+e8 with e8 = −2. -/
theorem test_LD_HL_SP_e8_with_e8_minus_2 :
    let t := after (vector [0xF8, 0xFE] [] (fun c => { c with sp := 0x0001 }))
    (t.cpu.h, t.cpu.l, t.cpu.f, t.tickCount) =
      (0xFF, 0xFF, 0x00, 3) := by
  decide +kernel

/-- R320: RLCA clears Z. -/
theorem test_RLCA_clears_Z :
    let t := after (vector [0x07] [] (fun c => { c with a := 0x80, f := 0x80 }))
    (t.cpu.a, t.cpu.f, t.tickCount) =
      (0x01, 0x10, 1) := by
  decide +kernel

/-- R321: RRCA. -/
theorem test_RRCA :
    let t := after (vector [0x0F] [] (fun c => { c with a := 0x01 }))
    (t.cpu.a, t.cpu.f, t.tickCount) =
      (0x80, 0x10, 1) := by
  decide +kernel

/-- R322: RLA: carry in. -/
theorem test_RLA_carry_in :
    let t := after (vector [0x17] [] (fun c => { c with a := 0x00, f := 0x10 }))
    (t.cpu.a, t.cpu.f, t.tickCount) =
      (0x01, 0x00, 1) := by
  decide +kernel

/-- R323: RRA. -/
theorem test_RRA :
    let t := after (vector [0x1F] [] (fun c => { c with a := 0x01 }))
    (t.cpu.a, t.cpu.f, t.tickCount) =
      (0x00, 0x10, 1) := by
  decide +kernel

/-- R325: RLC B of zero sets Z. -/
theorem test_RLC_B_of_zero_sets_Z :
    let t := after (vector [0xCB, 0x00] [] (fun c => { c with b := 0x00 }))
    (t.cpu.b, t.cpu.f, t.tickCount) =
      (0x00, 0x80, 2) := by
  decide +kernel

/-- R328: RRC (HL). -/
theorem test_RRC_HL :
    let t := after (vector [0xCB, 0x0E] [(0xC100, 0x01)] (fun c => { c with h := 0xC1, l := 0x00 }))
    (busRead t 0xC100, t.cpu.f, t.tickCount) =
      (0x80, 0x10, 4) := by
  decide +kernel

/-- R329: RL C. -/
theorem test_RL_C :
    let t := after (vector [0xCB, 0x11] [] (fun c => { c with c := 0x80 }))
    (t.cpu.c, t.cpu.f, t.tickCount) =
      (0x00, 0x90, 2) := by
  decide +kernel

/-- R331: RR D with C=1. -/
theorem test_RR_D_with_C_1 :
    let t := after (vector [0xCB, 0x1A] [] (fun c => { c with d := 0x00, f := 0x10 }))
    (t.cpu.d, t.cpu.f, t.tickCount) =
      (0x80, 0x00, 2) := by
  decide +kernel

/-- R333: SLA E. -/
theorem test_SLA_E :
    let t := after (vector [0xCB, 0x23] [] (fun c => { c with e := 0xFF }))
    (t.cpu.e, t.cpu.f, t.tickCount) =
      (0xFE, 0x10, 2) := by
  decide +kernel

/-- R335: SRA H keeps bit 7. -/
theorem test_SRA_H_keeps_bit_7 :
    let t := after (vector [0xCB, 0x2C] [] (fun c => { c with h := 0x81 }))
    (t.cpu.h, t.cpu.f, t.tickCount) =
      (0xC0, 0x10, 2) := by
  decide +kernel

/-- R337: SWAP A of zero clears C. -/
theorem test_SWAP_A_of_zero_clears_C :
    let t := after (vector [0xCB, 0x37] [] (fun c => { c with a := 0x00, f := 0x10 }))
    (t.cpu.a, t.cpu.f, t.tickCount) =
      (0x00, 0x80, 2) := by
  decide +kernel

/-- R339: SRL L to zero. -/
theorem test_SRL_L_to_zero :
    let t := after (vector [0xCB, 0x3D] [] (fun c => { c with l := 0x01 }))
    (t.cpu.l, t.cpu.f, t.tickCount) =
      (0x00, 0x90, 2) := by
  decide +kernel

/-- R340: SRL (HL). -/
theorem test_SRL_HL :
    let t := after (vector [0xCB, 0x3E] [(0xC100, 0x80)] (fun c => { c with h := 0xC1, l := 0x00 }))
    (busRead t 0xC100, t.cpu.f, t.tickCount) =
      (0x40, 0x00, 4) := by
  decide +kernel

/-- R341: BIT 7,H: bit clear, C kept. -/
theorem test_BIT_7_H_bit_clear_C_kept :
    let t := after (vector [0xCB, 0x7C] [] (fun c => { c with h := 0x7F, f := 0x10 }))
    (t.cpu.f, t.tickCount) =
      (0xB0, 2) := by
  decide +kernel

/-- R342: BIT 0,(HL): bit set, 3 cycles (no write). -/
theorem test_BIT_0_HL_bit_set_3_cycles_no_write :
    let t := after (vector [0xCB, 0x46] [(0xC100, 0x01)] (fun c => { c with h := 0xC1, l := 0x00 }))
    (t.cpu.f, t.tickCount) =
      (0x20, 3) := by
  decide +kernel

/-- R343: RES 0,A: flags untouched. -/
theorem test_RES_0_A_flags_untouched :
    let t := after (vector [0xCB, 0x87] [] (fun c => { c with a := 0xFF, f := 0xF0 }))
    (t.cpu.a, t.cpu.f, t.tickCount) =
      (0xFE, 0xF0, 2) := by
  decide +kernel

/-- R344: RES 7,(HL). -/
theorem test_RES_7_HL :
    let t := after (vector [0xCB, 0xBE] [(0xC100, 0xFF)] (fun c => { c with h := 0xC1, l := 0x00 }))
    (busRead t 0xC100, t.tickCount) =
      (0x7F, 4) := by
  decide +kernel

/-- R345: SET 3,B. -/
theorem test_SET_3_B :
    let t := after (vector [0xCB, 0xD8] [] (fun c => { c with b := 0x00 }))
    (t.cpu.b, t.tickCount) =
      (0x08, 2) := by
  decide +kernel

/-- R346: SET 7,(HL). -/
theorem test_SET_7_HL :
    let t := after (vector [0xCB, 0xFE] [(0xC100, 0x00)] (fun c => { c with h := 0xC1, l := 0x00 }))
    (busRead t 0xC100, t.tickCount) =
      (0x80, 4) := by
  decide +kernel

/-- R361: JP n16. -/
theorem test_JP_n16 :
    let t := after (vector [0xC3, 0x34, 0x12] [] id)
    (t.cpu.pc, t.tickCount) =
      (0x1234, 4) := by
  decide +kernel

/-- R362: JP NZ,n16 taken. -/
theorem test_JP_NZ_n16_taken :
    let t := after (vector [0xC2, 0x34, 0x12] [] (fun c => { c with f := 0x00 }))
    (t.cpu.pc, t.tickCount) =
      (0x1234, 4) := by
  decide +kernel

/-- R363: JP HL. -/
theorem test_JP_HL :
    let t := after (vector [0xE9] [] (fun c => { c with h := 0x40, l := 0x00 }))
    (t.cpu.pc, t.tickCount) =
      (0x4000, 1) := by
  decide +kernel

/-- R364: JR e8 = −128. -/
theorem test_JR_e8_minus_128 :
    let t := after (vector [0x18, 0x80] [] id)
    (t.cpu.pc, t.tickCount) =
      (0xBF82, 3) := by
  decide +kernel

/-- R365: JR NC,e8 taken. -/
theorem test_JR_NC_e8_taken :
    let t := after (vector [0x30, 0x05] [] (fun c => { c with f := 0x00 }))
    (t.cpu.pc, t.tickCount) =
      (0xC007, 3) := by
  decide +kernel

/-- R366: CALL n16. -/
theorem test_CALL_n16 :
    let t := after (vector [0xCD, 0x00, 0x40] [] id)
    (t.cpu.pc, t.cpu.sp, busRead t 0xFFFD, busRead t 0xFFFC, t.tickCount) =
      (0x4000, 0xFFFC, 0xC0, 0x03, 6) := by
  decide +kernel

/-- R367: CALL Z,n16 taken. -/
theorem test_CALL_Z_n16_taken :
    let t := after (vector [0xCC, 0x00, 0x40] [] (fun c => { c with f := 0x80 }))
    (t.cpu.pc, t.cpu.sp, t.tickCount) =
      (0x4000, 0xFFFC, 6) := by
  decide +kernel

/-- R368: RET. -/
theorem test_RET :
    let t := after (vector [0xC9] [(0xC100, 0x03), (0xC101, 0x02)] (fun c => { c with sp := 0xC100 }))
    (t.cpu.pc, t.cpu.sp, t.tickCount) =
      (0x0203, 0xC102, 4) := by
  decide +kernel

/-- R369: RET Z taken. -/
theorem test_RET_Z_taken :
    let t := after (vector [0xC8] [(0xC100, 0x03), (0xC101, 0x02)] (fun c => { c with f := 0x80, sp := 0xC100 }))
    (t.cpu.pc, t.cpu.sp, t.tickCount) =
      (0x0203, 0xC102, 5) := by
  decide +kernel

/-- R373: RETI. -/
theorem test_RETI :
    let t := after (vector [0xD9] [(0xC100, 0x03), (0xC101, 0x02)] (fun c => { c with sp := 0xC100, ime := false }))
    (t.cpu.pc, t.cpu.sp, t.cpu.ime, t.tickCount) =
      (0x0203, 0xC102, true, 4) := by
  decide +kernel

/-- R370: RST 0x38. -/
theorem test_RST_0x38 :
    let t := after (vector [0xFF] [] id)
    (t.cpu.pc, t.cpu.sp, busRead t 0xFFFD, busRead t 0xFFFC, t.tickCount) =
      (0x0038, 0xFFFC, 0xC0, 0x01, 4) := by
  decide +kernel

/-- R279: DAA after 0x00−0x01 (A=FF, F=70). -/
theorem test_DAA_after_0x00minus_0x01_A_FF_F_70 :
    let t := after (vector [0x27] [] (fun c => { c with a := 0xFF, f := 0x70 }))
    (t.cpu.a, t.cpu.f, t.tickCount) =
      (0x99, 0x50, 1) := by
  decide +kernel

/-- R302: ADD HL,HL: carry out of bit 15. -/
theorem test_ADD_HL_HL_carry_out_of_bit_15 :
    let t := after (vector [0x29] [] (fun c => { c with h := 0x80, l := 0x00 }))
    (t.cpu.h, t.cpu.l, t.cpu.f, t.tickCount) =
      (0x00, 0x00, 0x10, 2) := by
  decide +kernel

/-- R365: JR C,e8 not taken. -/
theorem test_JR_C_e8_not_taken :
    let t := after (vector [0x38, 0x05] [] (fun c => { c with f := 0x00 }))
    (t.cpu.pc, t.tickCount) =
      (0xC002, 2) := by
  decide +kernel

/-- R369: RET NZ not taken. -/
theorem test_RET_NZ_not_taken :
    let t := after (vector [0xC0] [] (fun c => { c with f := 0x80 }))
    (t.cpu.pc, t.tickCount) =
      (0xC001, 2) := by
  decide +kernel

/-! ## System instructions, interrupts and the lock: 2.6 and 2.7 of spec/95_test_vectors.md -/

/-- Halted with a request pending and IME clear: the step wakes and runs the byte after HALT (R422, R423). -/
theorem test_wake_without_IME :
    let t := after (vector [0x00] [(0xFF0F, 0x01), (0xFFFF, 0x01)] (fun c => { c with halted := true }))
    (t.cpu.pc, t.cpu.halted, busRead t 0xFF0F, t.tickCount) = (0xC001, false, 0xE1, 1) := by
  decide +kernel

/-- HALT halts in one M-cycle (R392). -/
theorem test_HALT :
    let t := after (vector [0x76] [] id)
    (t.cpu.pc, t.cpu.halted, t.tickCount) = (0xC001, true, 1) := by
  decide +kernel

/-- STOP is one byte and no operation (R391). -/
theorem test_STOP :
    let t := after (vector [0x10, 0x00] [] id)
    (t.cpu.pc, t.tickCount) = (0xC001, 1) := by
  decide +kernel

/-- DI cancels a pending EI (R393). -/
theorem test_DI_cancels_EI :
    let t := after (vector [0xF3] [] (fun c => { c with imePending := true }))
    (t.cpu.ime, t.cpu.imePending) = (false, false) := by
  decide +kernel

/-- EI sets the pending stage only (R394). -/
theorem test_EI :
    let t := after (vector [0xFB] [] id)
    (t.cpu.ime, t.cpu.imePending, t.tickCount) = (false, true, 1) := by
  decide +kernel

/-- An undefined opcode locks the core in one M-cycle (R396). -/
theorem test_undefined_locks :
    let t := after (vector [0xD3] [] id)
    (t.cpu.locked, t.cpu.pc, t.tickCount) = (true, 0xC001, 1) := by
  decide +kernel

/-- Two requests: VBlank is served first (R413); five M-cycles; the pushed PC (R415). -/
theorem test_dispatch :
    let t := after (vector [0x00] [(0xFF0F, 0x05), (0xFFFF, 0x05)] (fun c => { c with ime := true }))
    (t.cpu.pc, busRead t 0xFF0F, t.cpu.ime, t.cpu.sp, busRead t 0xFFFD, busRead t 0xFFFC, t.tickCount) =
      (0x0040, 0xE4, false, 0xFFFC, 0xC0, 0x00, 5) := by
  decide +kernel

/-- Only Joypad is enabled (R411, R414). -/
theorem test_dispatch_joypad :
    let t := after (vector [0x00] [(0xFF0F, 0x1F), (0xFFFF, 0x10)] (fun c => { c with ime := true }))
    (t.cpu.pc, busRead t 0xFF0F) = (0x0060, 0xEF) := by
  decide +kernel

/-- The placed instruction is the first after reset, at the reset PC (log entry 14). -/
theorem test_withFetchWord :
    (after (State.reset.withFetchWord 8 0x3E)).cpu = { State.reset.cpu with pc := 2 } ∧
      (after (State.reset.withFetchWord 16 0xCBC7)).cpu = { State.reset.cpu with pc := 2, a := 0x01 } := by
  decide +kernel

/-! ## The bus, the mappers and the devices: 2.8 to 2.12 and 2.16 -/

/-- A machine with a distinct byte at each end of each region. -/
def mapped : State :=
  { State.powerOn
      { Config.default with
        mapper := .variantB, romSizeExp := 8, ramSizeExp := some 6, bootRom := [(0, 1), (255, 2)],
        cartRom := [(0, 3), (0x100, 4), (0x3FFF, 5), (0x4000, 6), (0x7FFF, 7)] }
      { PowerOn.default with
        vram := [(0, 8), (0x1FFF, 9)], cartRam := [(0, 10), (0x1FFF, 11)], wram := [(0, 12), (0x1DFF, 13), (0x1FFF, 14)],
        oam := [(0, 15), (159, 16)], hram := [(0, 17), (126, 18)] } with
    cart := { Cart.reset with ramEnable := true }
    ie := 0xF3
    ifl := 0x12 }

/-- R101, R103: the owner of each region's first and last address. -/
theorem test_read_map :
    List.map (busRead mapped)
      [0x0000, 0x00FF, 0x0100, 0x3FFF, 0x4000, 0x7FFF, 0x8000, 0x9FFF, 0xA000, 0xBFFF, 0xC000, 0xDFFF, 0xE000, 0xFDFF,
       0xFE00, 0xFE9F, 0xFEA0, 0xFEFF, 0xFF03, 0xFF0F, 0xFF50, 0xFF7F, 0xFF80, 0xFFFE, 0xFFFF] =
      [1, 2, 4, 5, 6, 7, 8, 9, 10, 11, 12, 14, 12, 13, 15, 16, 0, 0, 0xFF, 0xF2, 0xFF, 0xFF, 17, 18, 0xF3] := by
  decide +kernel

/-- R102: only a non-zero write latches, and then the cartridge shows. -/
theorem test_boot_latch :
    (busRead (busWrite mapped 0xFF50 0x00) 0x0000, busRead (busWrite mapped 0xFF50 0x01) 0x0000,
      (busWrite (busWrite mapped 0xFF50 0x01) 0xFF50 0x00).bootDisabled) = (1, 3, true) := by
  decide +kernel

/-- R650 and 2.16: bus reads right after power-on reset. -/
theorem test_reset_reads :
    List.map (busRead State.reset)
      [0xFF00, 0xFF01, 0xFF02, 0xFF04, 0xFF05, 0xFF06, 0xFF07, 0xFF0F, 0xFF50, 0xFF40, 0xFF41, 0xFF44, 0xFF46, 0xFF26,
       0xFF10, 0xFFFF] =
      [0xCF, 0x00, 0x7E, 0x00, 0x00, 0x00, 0xF8, 0xE0, 0xFF, 0x00, 0x84, 0x00, 0x00, 0x70, 0x80, 0x00] := by
  decide +kernel

/-- The effective ROM address Variant A reads at `a` after some writes. -/
def romAfter (m : Mapper) (ws : List (Word × Byte)) (a : Word) : Nat :=
  let s := ws.foldl (fun s c => busWrite s c.1 c.2)
    (State.powerOn { Config.default with mapper := m, romSizeExp := if m = .variantA then 6 else 8 } PowerOn.default)
  romAddr s.cfg s.cart a % romSize s.cfg

/-- 2.9, Variant A. -/
theorem test_variantA :
    (romAfter .variantA [] 0x4000, romAfter .variantA [(0x2000, 0x05)] 0x4123,
      romAfter .variantA [(0x2000, 0x05), (0x4000, 0x01)] 0x4000,
      romAfter .variantA [(0x2000, 0x05), (0x4000, 0x01)] 0x0100,
      romAfter .variantA [(0x2000, 0x05), (0x4000, 0x01), (0x6000, 0x01)] 0x0100,
      romAfter .variantA [(0x3FFF, 0x20)] 0x7FFF) = (0x04000, 0x14123, 0x94000, 0x00100, 0x80100, 0x07FFF) := by
  decide +kernel

/-- 2.9, Variant B. -/
theorem test_variantB :
    (romAfter .variantB [] 0x4000, romAfter .variantB [(0x2000, 0x00)] 0x4000,
      romAfter .variantB [(0x2FFF, 0xFF), (0x3FFF, 0x01)] 0x4000, romAfter .variantB [(0x7FFF, 0x01)] 0x3FFF) =
      (0x4000, 0x0000, 0x7FC000, 0x3FFF) := by
  decide +kernel

/-- 2.10: TAC 0x05 counts after 4 ticks, and an overflow reloads TMA and requests in the same tick. -/
theorem test_timer :
    let s := busWrite State.reset 0xFF07 0x05
    let u := ticks 4 (busWrite (busWrite s 0xFF05 0xFF) 0xFF06 0xAB)
    (busRead (ticks 3 s) 0xFF05, busRead (ticks 4 s) 0xFF05, busRead u 0xFF05, busRead u 0xFF0F) = (0, 1, 0xAB, 0xE4) := by
  decide +kernel

/-- 2.12: the poll after a write of P1, and the request of a newly pressed line. -/
theorem test_joypad :
    let s : State := { State.reset with cfg := { State.reset.cfg with input := [⟨0, 0xE, 0x7⟩] }, joypad := ⟨3, 0xF⟩ }
    let t := busWrite s 0xFF00 0x10
    let u := busWrite t 0xFF00 0x00
    (busRead t 0xFF00, t.ifl, busRead u 0xFF00) = (0xD7, 0x10, 0xC6) := by
  decide +kernel

/-- 2.12: the serial stub. -/
theorem test_serial :
    let s := busWrite State.reset 0xFF02 0x81
    (busRead s 0xFF02, busRead (busWrite s 0xFF02 0x00) 0xFF02, busRead (busWrite s 0xFF01 0x55) 0xFF01) =
      (0xFF, 0x7E, 0x55) := by
  decide +kernel

/-! ## Witnesses: states and operands that meet an obligation's hypotheses, all of them together -/

/-- A machine about to run the code, the overlay off, PC 0xC000. -/
def coded (code : List Byte) : State := vector code [] id

/-- The addresses lie in a range. -/
def within (lo hi : Nat) (as : List Word) : Bool := as.all fun a => decide (lo ≤ a.toNat) && decide (a.toNat ≤ hi)

theorem coded_fetches :
    (coded [0x41]).fetches ∧ (coded [0xCD, 0x50, 0x01]).fetches := by
  unfold State.fetches; decide +kernel

theorem witness_StepRunsFetched : ∃ s : State, s.fetches := ⟨coded [0x41], coded_fetches.1⟩

/-- A three-byte instruction whose last byte is at 0xDFFF; and a one-byte one at each end of the plain addresses. -/
theorem witness_StepRunsPlainCode :
    (∃ (s : State) (i : Instr), s.fetches ∧ i.wellFormed = true ∧ i ≠ .prefixCb ∧
      ∀ k, k < (encode i).length → plainAddr (s.cpu.pc + BitVec.ofNat 16 k) ∧
        (encode i)[k]? = some (busRead s (s.cpu.pc + BitVec.ofNat 16 k))) ∧
    (plainAddr 0x0000 ∧ plainAddr 0xFDFF ∧ plainAddr 0xFEA0 ∧ plainAddr 0xFEFF ∧ plainAddr 0xFF80 ∧ plainAddr 0xFFFF) := by
  refine ⟨⟨coded [0xCD, 0x50, 0x01], .callN16 0x0150, coded_fetches.2, rfl, by decide, ?_⟩, ?_⟩
  · unfold plainAddr; decide +kernel
  · unfold plainAddr; decide +kernel

/-- SP - 1 and SP - 2 at both ends of the two ranges. -/
theorem witness_PushThenPop :
    (ramAddr 0xC001 ∧ ramAddr 0xC000) ∧ (ramAddr 0xFDFF ∧ ramAddr 0xFDFE) ∧ (ramAddr 0xFF81 ∧ ramAddr 0xFF80) ∧
      ∃ (s : State) (_ : Rp2), ramAddr (s.cpu.sp - 1) ∧ ramAddr (s.cpu.sp - 2) ∧ s.cpu.f &&& 0x0F = 0 := by
  refine ⟨?_, ?_, ?_, coded [0xF5], .af, ?_⟩ <;> unfold ramAddr <;> decide +kernel

theorem witness_DaaDecimal :
    ∃ (c : Cpu) (x y : Nat), x < 100 ∧ y < 100 ∧ c.a = BitVec.ofNat 8 (16 * (x / 10) + x % 10) :=
  ⟨{ State.reset.cpu with a := 0x99 }, 99, 99, by decide, by decide, by decide⟩

/-- DAA's cases: after an addition with and without the high correction, after a subtraction. -/
theorem witness_Daa :
    ∃ s t u : State,
      (s.cpu.f.getLsbD 6 = false ∧ (s.cpu.f.getLsbD 4 = true ∨ 0x99 < s.cpu.a.toNat)) ∧
      (t.cpu.f.getLsbD 6 = false ∧ ¬(t.cpu.f.getLsbD 4 = true ∨ 0x99 < t.cpu.a.toNat)) ∧ u.cpu.f.getLsbD 6 = true :=
  ⟨vector [] [] (fun c => { c with a := 0x9A }), vector [] [] (fun c => { c with a := 0x99 }),
    vector [] [] (fun c => { c with f := 0x40 }), by decide +kernel, by decide +kernel, by decide +kernel⟩

theorem witness_RotateA :
    (Instr.rlca, ShiftOp.rlc) ∈ [(Instr.rlca, ShiftOp.rlc), (.rrca, .rrc), (.rla, .rl), (.rra, .rr)] ∧
      (Instr.rra, ShiftOp.rr) ∈ [(Instr.rlca, ShiftOp.rlc), (.rrca, .rrc), (.rla, .rl), (.rra, .rr)] := by
  decide

/-- Each condition holds in one state and fails in another: Jump, Call, Return, MCycles. -/
theorem witness_conditions :
    ∀ cc ∈ [Cond.nz, .z, .nc, .c],
      (cc.Holds (vector [] [] (fun c => { c with f := 0x00 })).cpu.f ↔ cc = .nz ∨ cc = .nc) ∧
        (cc.Holds (vector [] [] (fun c => { c with f := 0x90 })).cpu.f ↔ cc = .z ∨ cc = .c) := by
  simp only [List.mem_cons, List.mem_nil_iff, or_false]
  rintro cc (rfl | rfl | rfl | rfl) <;> unfold Cond.Holds <;> decide +kernel

theorem witness_Lock :
    (Instr.undefined 0xD3).wellFormed = true ∧ (Instr.undefined 0xFD).wellFormed = true ∧
      ∃ s : State, s.cpu.locked = true :=
  ⟨by decide, by decide, after (vector [0xD3] [] id), by decide +kernel⟩

/-- Halted with nothing requested for three M-cycles; halted with a request, IME clear. -/
theorem witness_Halted :
    (∃ s : State, s.cpu.locked = false ∧ s.cpu.halted = true ∧ ∀ k, k < 3 → pending (ticks k s) = 0) ∧
    ∃ s : State, s.cpu.locked = false ∧ s.cpu.halted = true ∧ pending s ≠ 0 ∧ s.cpu.ime = false :=
  ⟨⟨after (coded [0x76]), by decide +kernel⟩,
    ⟨vector [] [(0xFF0F, 0x01), (0xFFFF, 0x01)] (fun c => { c with halted := true }), by decide +kernel⟩⟩

/-- The lowest source alone and the highest source alone. -/
theorem witness_Dispatch :
    ∀ b ∈ [(0x01 : Byte), 0x10],
      let s := vector [] [(0xFF0F, b), (0xFFFF, b)] (fun c => { c with ime := true })
      s.cpu.locked = false ∧ s.cpu.ime = true ∧ pending s ≠ 0 := by
  decide +kernel

/-- One state for each of the two instructions after EI. -/
theorem witness_EiDeferral :
    ∀ b ∈ [(0x00 : Byte), 0xF3],
      let s := vector [0xFB, b] [(0xFF0F, 0x01), (0xFFFF, 0x01)] id
      s.cpu.locked = false ∧ s.cpu.halted = false ∧ s.cpu.ime = false ∧ s.cpu.imePending = false ∧ pending s ≠ 0 ∧
        plainAddr s.cpu.pc ∧ plainAddr (s.cpu.pc + 1) ∧ busRead s s.cpu.pc = 0xFB ∧ busRead s (s.cpu.pc + 1) = b := by
  unfold plainAddr; decide +kernel

theorem witness_MCycles : ∃ (i : Instr) (_ : State), i.wellFormed = true ∧ i ≠ .prefixCb :=
  ⟨.callCond .nz 0x4000, State.reset, rfl, by decide⟩

/-- The read decode with the overlay shown and gone, no transfer running; and its ROM clauses at both ends. -/
theorem witness_ReadDecode_rom :
    (mapped.bootDisabled = false ∧ mapped.dma.active = false ∧ (busWrite mapped 0xFF50 0x01).bootDisabled = true) ∧
      within 0 0xFF [0x0000, 0x00FF] = true ∧ within 0 0x7FFF [0x0000, 0x00FF, 0x0100, 0x7FFF] = true := by
  decide +kernel

/-- Its memory clauses at both ends of their ranges (test_read_map reads them). -/
theorem witness_ReadDecode_ranges :
    within 0x8000 0x9FFF [0x8000, 0x9FFF] = true ∧
    within 0xA000 0xBFFF [0xA000, 0xBFFF] = true ∧
    within 0xC000 0xDFFF [0xC000, 0xDFFF] = true ∧
    within 0xFE00 0xFE9F [0xFE00, 0xFE9F] = true ∧
    within 0xFEA0 0xFEFF [0xFEA0, 0xFEFF] = true ∧
    within 0xFF80 0xFFFE [0xFF80, 0xFFFE] = true := by
  decide +kernel

/-- The unused addresses of the I/O window at the ends of their ranges, and their neighbours that hold registers. -/
theorem witness_ReadDecode_unused :
    (∀ n ∈ [0xFF03, 0xFF08, 0xFF0E, 0xFF15, 0xFF1F, 0xFF27, 0xFF2F, 0xFF4C, 0xFF4F, 0xFF51, 0xFF7F],
      unusedIo (BitVec.ofNat 16 n)) ∧
    ∀ n ∈ [0xFF02, 0xFF04, 0xFF07, 0xFF0F, 0xFF14, 0xFF16, 0xFF20, 0xFF26, 0xFF30, 0xFF4B, 0xFF50, 0xFF80],
      ¬unusedIo (BitVec.ofNat 16 n) := by
  unfold unusedIo; decide +kernel

/-- The P1 clauses: a write that selects the d-pad while a key is down, and one while none is. -/
theorem witness_ReadDecode_p1 :
    let s : State := { State.reset with cfg := { State.reset.cfg with input := [⟨0, 0xE, 0xF⟩] } }
    (s.joypad.lines.getLsbD 0 = true ∧ (busWrite s 0xFF00 0x20).joypad.lines.getLsbD 0 = false) ∧
      ∀ i, i < 4 → (busWrite State.reset 0xFF00 0x20).joypad.lines.getLsbD i = true := by
  decide +kernel

/-- The three NR14 clauses: no trigger, a trigger whose sweep check passes 2047, and one just below (spec 2.15's
period 0x7FF with shift 1, and period 0x555 with shift 1, 0x555 + 0x2AA = 2047). -/
theorem witness_ReadDecode_nr14 :
    let s := busWrite (busWrite State.reset 0xFF26 0x80) 0xFF10 0x01
    s.audio.on = true ∧ (0x07 : Byte).getLsbD 7 = false ∧ (0x87 : Byte).getLsbD 7 = true ∧
      s.audio.sweep.silences 0x7FF ∧ ¬s.audio.sweep.silences 0x555 ∧ s.audio.sweep.silences 0x556 := by
  unfold Sweep.silences; decide +kernel

/-- The mirror's two ends, and the unmirrored offsets' two ends. -/
theorem witness_EchoRam :
    within 0xE000 0xFDFF [0xE000, 0xFDFF] = true ∧ busRead (busWrite mapped 0xE000 0x5A) 0xC000 = 0x5A ∧
      busRead (busWrite mapped 0xFDFF 0x5A) 0xDDFF = 0x5A ∧ regionOf 0xDE00 = .wram 0x1E00 ∧
      regionOf 0xDFFF = .wram 0x1FFF := by
  decide +kernel

theorem witness_RamReadBack :
    (ramAddr 0xC000 ∧ ramAddr 0xFDFF ∧ ramAddr 0xFF80 ∧ ramAddr 0xFFFE) ∧ within 0x8000 0x9FFF [0x8000, 0x9FFF] = true := by
  unfold ramAddr; decide +kernel

theorem witness_LatchAndImagesKept : ∃ s t : State, step s = .next t ∧ s.bootDisabled = true :=
  let ⟨t, ht⟩ := step_completes (coded [0x41])
  ⟨coded [0x41], t, ht, by decide +kernel⟩

theorem witness_OamBlocked :
    let s := ticks 2 (busWrite mapped 0xFF46 0xC0)
    s.dma.active = true ∧ s.oam.read 0 = 15 ∧ busRead s 0xFE00 = 0xFF ∧ busRead s 0xFE9F = 0xFF ∧
      within 0xFE00 0xFE9F [0xFE00, 0xFE9F] = true ∧ within 0 0xFDFF [0xFDFF] = true ∧
      within 0xFEA0 0xFFFF [0xFEA0] = true := by
  decide +kernel

/-- A machine with a mapper, RAM on, the overlay off. -/
def cartridge (m : Mapper) : State :=
  { mapped with cfg := { mapped.cfg with mapper := m }, bootDisabled := true }

/-- Each clause's range at both ends, mode clear and set; RAM on and off. -/
theorem witness_VariantA :
    (cartridge .variantA).cfg.mapper = .variantA ∧ (cartridge .variantA).bootDisabled = true ∧
    within 0 0x1FFF [0x0000, 0x1FFF] = true ∧
    within 0x2000 0x3FFF [0x2000, 0x3FFF] = true ∧
    within 0x4000 0x5FFF [0x4000, 0x5FFF] = true ∧
    within 0x6000 0x7FFF [0x6000, 0x7FFF] = true ∧
    within 0xA000 0xBFFF [0xA000, 0xBFFF] = true ∧
    ((cartridge .variantA).cart.ramEnable = true ∧ ramSize (cartridge .variantA).cfg ≠ 0) ∧
    (busWrite (cartridge .variantA) 0x0000 0x00).cart.ramEnable = false ∧
    (busWrite (cartridge .variantA) 0x6000 0x01).cart.mode = true := by
  decide +kernel

theorem witness_VariantB :
    (cartridge .variantB).cfg.mapper = .variantB ∧ (cartridge .variantB).bootDisabled = true ∧
    within 0 0x1FFF [0x0000, 0x1FFF] = true ∧
    within 0x2000 0x2FFF [0x2000, 0x2FFF] = true ∧
    within 0x3000 0x3FFF [0x3000, 0x3FFF] = true ∧
    within 0x4000 0x5FFF [0x4000, 0x5FFF] = true ∧
    within 0x6000 0x7FFF [0x6000, 0x7FFF] = true ∧
    within 0xA000 0xBFFF [0xA000, 0xBFFF] = true ∧
    ((cartridge .variantB).cart.ramEnable = true ∧ ramSize (cartridge .variantB).cfg ≠ 0) ∧
    (busWrite (cartridge .variantB) 0x1FFF 0x1A).cart.ramEnable = false := by
  decide +kernel

theorem witness_NoMapper :
    (cartridge .noMapper).cfg.mapper = .noMapper ∧ (cartridge .noMapper).bootDisabled = true ∧
    within 0 0x7FFF [0x0000, 0x7FFF] = true ∧
    within 0xA000 0xBFFF [0xA000, 0xBFFF] = true := by
  decide +kernel

/-- A tick that does not clock TIMA, one that does, and one that overflows it. -/
theorem witness_TimerTick :
    let falls (s : State) : Bool :=
      s.timer.prev && !((s.timer.div16 + 1).getLsbD ([7, 1, 3, 5].getD (s.timer.tac.toNat % 4) 0) && s.timer.tac.getLsbD 2)
    let s := busWrite State.reset 0xFF07 0x05
    let t := ticks 3 s
    let u := busWrite t 0xFF05 0xFF
    falls s = false ∧ (falls t = true ∧ t.timer.tima ≠ 0xFF) ∧ falls u = true ∧ u.timer.tima = 0xFF := by
  decide +kernel

/-- Enabled at each of the four rates, the latch agreeing, 255 counts to go. -/
theorem witness_TimerRate :
    ∀ p ∈ [((0x04 : Byte), 256), (0x05, 4), (0x06, 16), (0x07, 64)],
      let s := busWrite State.reset 0xFF07 p.1
      [256, 4, 16, 64].getD (s.timer.tac.toNat % 4) 0 = p.2 ∧ s.timer.tac.getLsbD 2 = true ∧
        s.timer.prev = decide (p.2 / 2 ≤ s.timer.div16.toNat % p.2) ∧
        s.timer.tima.toNat + ((s.timer.div16.toNat + 255 * p.2) / p.2 - s.timer.div16.toNat / p.2) ≤ 255 := by
  decide +kernel

/-- Nothing running or queued; the last page below OAM, and a page of OAM. -/
theorem witness_DmaCopies :
    ∃ (s : State) (p q : Byte), s.dma.quiet ∧ p.toNat < 0xFE ∧ p.toNat = 0xFD ∧ ¬q.toNat < 0xFE :=
  ⟨mapped, 0xFD, 0xFE, ⟨rfl, rfl, rfl⟩, by decide⟩

/-- Line 0 and line 3 pressed at this tick, released before. -/
theorem witness_JoypadPoll :
    ∃ s : State, ∀ i ∈ [0, 3], i < 4 ∧ s.joypad.lines.getLsbD i = true ∧ s.joypad.sel.getLsbD 0 = false ∧
      (inputAt s.cfg s.tickCount).dpad.getLsbD i = false :=
  ⟨{ State.reset with cfg := { State.reset.cfg with input := [⟨0, 0x6, 0xF⟩] } }, by decide +kernel⟩

/-- No line newly pressed. -/
theorem witness_JoypadPoll_quiet :
    ∃ s : State, ∀ j, j < 4 → s.joypad.lines.getLsbD j = true → (tick s).joypad.lines.getLsbD j = true :=
  ⟨State.reset, by decide +kernel⟩

/-- A video unit with the display on at a position outside mode 3. -/
def videoAt (ly dot : Nat) (m : VideoMode) : Video := { Video.reset with lcdc := 0x80, ly := ly, dot := dot, mode := m }

/-- The display on at the frame's last dots, and off. -/
theorem witness_FramePosition :
    ∃ s t : State, s.video.Inv ∧ s.video.lcdc.getLsbD 7 = true ∧ s.video.framePos = 70223 ∧ t.video.Inv ∧
      t.video.lcdc.getLsbD 7 = false :=
  ⟨{ State.reset with video := videoAt 153 455 .vblank }, State.reset, by constructor <;> decide +kernel, by decide, by decide,
    by constructor <;> decide +kernel, by decide⟩

/-- The tick that reaches line 144, the one before, the tick that ends line 153. -/
theorem witness_VBlankOnce :
    (∃ v : Video, v.Inv ∧ v.lcdc.getLsbD 7 = true ∧ v.framePos < 144 * 456 ∧ v.framePos + 4 = 144 * 456) ∧
    (∃ v : Video, v.Inv ∧ v.lcdc.getLsbD 7 = true ∧ v.framePos + 5 = 144 * 456) ∧
    ∃ v : Video, v.Inv ∧ v.lcdc.getLsbD 7 = true ∧ v.framePos + 4 = 70224 :=
  ⟨⟨videoAt 143 452 .hblank, by constructor <;> decide +kernel, by decide⟩,
    ⟨videoAt 143 451 .hblank, by constructor <;> decide +kernel, by decide⟩,
    ⟨videoAt 153 452 .vblank, by constructor <;> decide +kernel, by decide⟩⟩

theorem audio_reset_inv : State.reset.audio.Inv := by
  constructor
  · constructor <;> decide +kernel
  · constructor <;> decide +kernel
  all_goals decide +kernel

/-- The unit off, at both ends of the dropped range and of the wave table. -/
theorem witness_AudioOff :
    State.reset.audio.on = false ∧ within 0xFF10 0xFF25 [0xFF10, 0xFF25] = true ∧
      within 0xFF30 0xFF3F [0xFF30, 0xFF3F] = true ∧ State.reset.audio.Inv :=
  ⟨by decide +kernel, by decide +kernel, by decide +kernel, audio_reset_inv⟩

/-- Channel 1 playing, and channel 3 playing; 0x07 meets both conditions on the byte, 0x7F only channel 3's. -/
theorem witness_DacSilence :
    ∃ s t : State, s.audio.on = true ∧ s.audio.ch1.active = true ∧ t.audio.on = true ∧ t.audio.ch3.active = true ∧
      (0x07 : Byte) &&& 0xF8 = 0 ∧ (0x07 : Byte).getLsbD 7 = false ∧ (0x7F : Byte).getLsbD 7 = false ∧
      (0x7F : Byte) &&& 0xF8 ≠ 0 :=
  let on := busWrite State.reset 0xFF26 0x80
  ⟨busWrite (busWrite on 0xFF12 0xF0) 0xFF14 0x80, busWrite (busWrite on 0xFF1A 0x80) 0xFF1E 0x80, by decide +kernel⟩

/-- A state other than reset that has the invariant: memory listed, the display on in line 143, a transfer running. -/
theorem witness_InvKeptByStep : ∃ s t : State, s.Inv ∧ step s = .next t := by
  let s : State := { mapped with video := videoAt 143 300 .hblank, dma := ⟨none, none, true, 0xC000, 159, 0xC0⟩ }
  obtain ⟨t, ht⟩ := step_completes s
  refine ⟨s, t, ⟨by decide +kernel, ?_, ?_, ?_, ?_, ?_, ?_, by decide +kernel, by decide +kernel, by decide +kernel, ?_,
    audio_reset_inv⟩, ht⟩
  all_goals constructor <;> decide +kernel

end Sys2Proof.Tests
end

section
/-! PROOF. Power-on reset (spec/10_state.md R47 to R52) and the machine's invariant: each unit's register writes keep
its part, then the four moves of a step (Laws/Moves.lean) keep the whole. -/

namespace Sys2Proof.Machine

/-! ## Power-on reset -/

/-- The mask of power-on clears exactly the low four bits (70_reset_and_hazards.md R651). -/
theorem getLsbD_and_highNibble (v : Byte) (i : Nat) :
    (v &&& 0xF0).getLsbD i = (decide (4 ≤ i) && v.getLsbD i) := by
  by_cases hi : i < 8
  · rw [BitVec.getLsbD_and, Bool.and_comm]
    congr 1
    interval_cases i <;> rfl
  · rw [BitVec.getLsbD_of_ge _ _ (by omega), BitVec.getLsbD_of_ge _ _ (by omega), Bool.and_false]

/-- Settles O58: every element is the one `State.powerOn` writes, and F's mask keeps the high nibble. -/
theorem resetValues : Obligations.ResetValues := by
  intro cfg p s
  have hf : ∀ i, s.cpu.f.getLsbD i = (decide (4 ≤ i) && p.f.getLsbD i) := getLsbD_and_highNibble p.f
  exact ⟨⟨rfl, rfl, rfl, rfl, rfl, rfl, rfl⟩, ⟨rfl, hf, rfl, rfl, rfl, rfl, rfl, rfl, rfl⟩,
    ⟨rfl, rfl, rfl, rfl, rfl, rfl, rfl⟩, ⟨rfl, rfl, rfl, rfl, rfl⟩, rfl, rfl, ⟨rfl, rfl, rfl, rfl, rfl⟩, rfl, rfl⟩

theorem Square.reset_inv : Square.reset.Inv := by constructor <;> decide

theorem Audio.reset_inv : Audio.reset.Inv := by
  constructor
  case ch1 => exact Square.reset_inv
  case ch2 => exact Square.reset_inv
  all_goals decide

theorem Video.reset_inv : Video.reset.Inv := by constructor <;> decide

/-- Power-on gives the invariant whenever the parameters' memories fit their arrays. -/
theorem State.powerOn_inv {cfg : Config} {p : PowerOn} (hvram : ArrayOf 0x2000 p.vram) (hwram : ArrayOf 0x2000 p.wram)
    (hoam : ArrayOf 160 p.oam) (hhram : ArrayOf 127 p.hram) (hcartRam : ArrayOf (ramSize cfg) p.cartRam) :
    (State.powerOn cfg p).Inv where
  flags_low := mask_low p.f
  vram := hvram
  wram := hwram
  oam := hoam
  hram := hhram
  cartRam := hcartRam
  wave := ArrayOf.nil 16
  bankLow := show Cart.reset.bankLow ≠ 0 by decide
  dma_idx := nofun
  serial := BitVec.zero_and
  video := Video.reset_inv
  audio := Audio.reset_inv

/-- Settles O59: the default parameters' memories are empty arrays. -/
theorem invAtReset : Obligations.InvAtReset :=
  State.powerOn_inv (ArrayOf.nil _) (ArrayOf.nil _) (ArrayOf.nil _) (ArrayOf.nil _) (ArrayOf.nil _)

/-! ## The wave and noise channels

`Audio.Inv` lists these two channels' bounds field by field; grouped per channel, a channel's register write is judged
on the channel alone. -/

/-- Channel 3's part of `Audio.Inv` while the unit is on. -/
structure Wave.Bounded (w : Wave) : Prop where
  len_le : w.len ≤ 256
  timer_lt : w.timer < 2048
  pos_lt : w.pos < 32
  sample_lt : w.sampleBuf < 16
  active_dac : w.active = true → w.dac = true

/-- Channel 4's part of `Audio.Inv` while the unit is on. -/
structure Noise.Bounded (n : Noise) : Prop where
  len_le : n.len ≤ 64
  volume_le : n.volume ≤ 15
  envTimer_le : n.envTimer ≤ 7
  count_lt : n.count < 229376
  active_dac : n.active = true → n.dac = true

theorem Wave.Bounded.writeDac {w : Wave} (h : w.Bounded) (v : Byte) : (w.writeDac v).Bounded :=
  { h with active_dac := fun ha => (Bool.and_eq_true_iff.1 ha).2 }

theorem Wave.Bounded.writeLen {w : Wave} (h : w.Bounded) (v : Byte) : (w.writeLen v).Bounded :=
  { h with len_le := Nat.sub_le _ _ }

theorem Wave.Bounded.trigger {w : Wave} (h : w.Bounded) : w.trigger.Bounded where
  len_le := by
    simp only [Wave.trigger]
    split
    · exact Nat.le_refl _
    · exact h.len_le
  timer_lt := periodOf_lt _ _
  pos_lt := Nat.zero_lt_succ _
  sample_lt := h.sample_lt
  active_dac := id

theorem Wave.Bounded.writeControl {w : Wave} (h : w.Bounded) (v : Byte) : (w.writeControl v).Bounded := by
  have h1 : ({ w with nr34 := v } : Wave).Bounded := { h with }
  unfold Wave.writeControl
  simp only
  split
  · exact h1.trigger
  · exact h1

theorem Noise.Bounded.writeLen {n : Noise} (h : n.Bounded) (v : Byte) : (n.writeLen v).Bounded :=
  { h with len_le := Nat.sub_le _ _ }

theorem Noise.Bounded.writeEnv {n : Noise} (h : n.Bounded) (v : Byte) : (n.writeEnv v).Bounded :=
  { h with active_dac := fun ha => (Bool.and_eq_true_iff.1 ha).2 }

theorem Noise.Bounded.trigger {n : Noise} (h : n.Bounded) : n.trigger.Bounded where
  len_le := by
    simp only [Noise.trigger]
    split
    · exact Nat.le_refl _
    · exact h.len_le
  volume_le := Nat.le_of_lt_succ (fieldNat_lt n.nr42 4 4)
  envTimer_le := Nat.le_of_lt_succ (fieldNat_lt n.nr42 0 3)
  count_lt := Nat.zero_lt_succ _
  active_dac := id

theorem Noise.Bounded.writeControl {n : Noise} (h : n.Bounded) (v : Byte) : (n.writeControl v).Bounded := by
  have h1 : ({ n with nr44 := v } : Noise).Bounded := { h with }
  unfold Noise.writeControl
  simp only
  split
  · exact h1.trigger
  · exact h1

/-! ## The audio unit's register writes -/

namespace Audio.Inv

variable {a : Audio}

theorem wave_bounded (h : a.Inv) : a.ch3.Bounded :=
  ⟨h.len3_le, h.timer3_lt, h.pos_lt, h.sample_lt, h.active3_dac⟩

theorem noise_bounded (h : a.Inv) : a.ch4.Bounded :=
  ⟨h.len4_le, h.volume4_le, h.envTimer4_le, h.count_lt, h.active4_dac⟩

/-! With the unit on, a channel may be replaced by any channel in range. -/

theorem with_ch1 (h : a.Inv) (hon : a.on = true) {q : Square} (hq : q.Inv) : ({ a with ch1 := q } : Audio).Inv :=
  { h with ch1 := hq, off_silent := fun hoff => absurd hon (Bool.eq_false_iff.1 hoff) }

theorem with_ch2 (h : a.Inv) (hon : a.on = true) {q : Square} (hq : q.Inv) : ({ a with ch2 := q } : Audio).Inv :=
  { h with ch2 := hq, off_silent := fun hoff => absurd hon (Bool.eq_false_iff.1 hoff) }

theorem with_ch3 (h : a.Inv) (hon : a.on = true) {w : Wave} (hw : w.Bounded) : ({ a with ch3 := w } : Audio).Inv :=
  { h with
    len3_le := hw.len_le, timer3_lt := hw.timer_lt, pos_lt := hw.pos_lt, sample_lt := hw.sample_lt
    active3_dac := hw.active_dac, off_silent := fun hoff => absurd hon (Bool.eq_false_iff.1 hoff) }

theorem with_ch4 (h : a.Inv) (hon : a.on = true) {n : Noise} (hn : n.Bounded) : ({ a with ch4 := n } : Audio).Inv :=
  { h with
    len4_le := hn.len_le, volume4_le := hn.volume_le, envTimer4_le := hn.envTimer_le, count_lt := hn.count_lt
    active4_dac := hn.active_dac, off_silent := fun hoff => absurd hon (Bool.eq_false_iff.1 hoff) }

/-- An NR14 write: channel 1 triggers, and with it the sweep (63_audio.md R586, R591). -/
theorem writeNr14 (h : a.Inv) (hon : a.on = true) (v : Byte) : (Machine.writeNr14 v a).Inv := by
  have hq : (a.ch1.writeControl v).Inv := h.ch1.writeControl v
  unfold Machine.writeNr14
  split
  · obtain ⟨hch1, hshadow, htimer⟩ := sweepTrigger_spec a.sweep _ hq
    exact { h.with_ch1 hon hch1 with shadow_lt := hshadow, sweepTimer_le := htimer }
  · exact h.with_ch1 hon hq

/-- An NR52 write: switching off silences all four channels, switching on restarts the sequencer (63_audio.md
R572). -/
theorem writeNr52 (h : a.Inv) (v : Byte) : (Machine.writeNr52 v a).Inv := by
  unfold Machine.writeNr52
  simp only
  split
  · exact { h with
      ch1 := h.ch1.weaken nofun, ch2 := h.ch2.weaken nofun, active3_dac := nofun, active4_dac := nofun
      off_silent := fun _ => ⟨rfl, rfl, rfl, rfl⟩ }
  · split
    · exact { h with fsStep_lt := Nat.zero_lt_succ _, off_silent := nofun }
    · exact h

end Audio.Inv

/-- A write the master enable can drop: only the unit that is on has to keep its invariant (63_audio.md R573). -/
theorem audioWrite_inv {f : Audio → Audio} {s : State} (h : s.audio.Inv)
    (hf : s.audio.on = true → (f s.audio).Inv) : (audioWrite f s).audio.Inv := by
  show (if s.audio.on then f s.audio else s.audio).Inv
  split
  · next hon => exact hf hon
  · exact h

/-- Every I/O write keeps the audio unit's invariant (63_audio.md R572, R573, R585). -/
theorem ioWrite_audio_inv {s : State} (h : s.audio.Inv) (r : IoReg) (v : Byte) : (ioWrite s r v).audio.Inv := by
  have hw := h.wave_bounded
  have hn := h.noise_bounded
  cases r with
  | nr11 => exact audioWrite_inv h fun hon => h.with_ch1 hon (h.ch1.writeLen v)
  | nr12 => exact audioWrite_inv h fun hon => h.with_ch1 hon (h.ch1.writeEnv v)
  | nr13 => exact audioWrite_inv h fun hon => h.with_ch1 hon (h.ch1.writePeriod v)
  | nr14 => exact audioWrite_inv h fun hon => h.writeNr14 hon v
  | nr21 => exact audioWrite_inv h fun hon => h.with_ch2 hon (h.ch2.writeLen v)
  | nr22 => exact audioWrite_inv h fun hon => h.with_ch2 hon (h.ch2.writeEnv v)
  | nr23 => exact audioWrite_inv h fun hon => h.with_ch2 hon (h.ch2.writePeriod v)
  | nr24 => exact audioWrite_inv h fun hon => h.with_ch2 hon (h.ch2.writeControl v)
  | nr30 => exact audioWrite_inv h fun hon => h.with_ch3 hon (hw.writeDac v)
  | nr31 => exact audioWrite_inv h fun hon => h.with_ch3 hon (hw.writeLen v)
  | nr34 => exact audioWrite_inv h fun hon => h.with_ch3 hon (hw.writeControl v)
  | nr41 => exact audioWrite_inv h fun hon => h.with_ch4 hon (hn.writeLen v)
  | nr42 => exact audioWrite_inv h fun hon => h.with_ch4 hon (hn.writeEnv v)
  | nr44 => exact audioWrite_inv h fun hon => h.with_ch4 hon (hn.writeControl v)
  | nr52 => exact h.writeNr52 v
  | nr10 | nr32 | nr33 | nr43 | nr50 | nr51 => exact audioWrite_inv h fun _ => { h with }
  | _ => exact { h with }

/-! ## The other units' register writes -/

/-- An I/O write changes only registers of the video unit, never a counter or its mode (62_video.md R500, R501). -/
theorem ioWrite_video_inv {s : State} (h : s.video.Inv) (r : IoReg) (v : Byte) : (ioWrite s r v).video.Inv := by
  cases r <;> exact h.congr rfl rfl rfl rfl rfl rfl rfl rfl rfl rfl rfl

/-- An I/O write never moves the transfer counter: a DMA request only enters the start queue
(61_timer_dma_joypad.md R460). -/
theorem ioWrite_dma_counter (s : State) (r : IoReg) (v : Byte) :
    (ioWrite s r v).dma.active = s.dma.active ∧ (ioWrite s r v).dma.idx = s.dma.idx := by
  cases r <;> exact ⟨rfl, rfl⟩

/-- SC's write mask keeps bits 7 and 0 (61_timer_dma_joypad.md R474). -/
theorem sc_unused_clear (v : Byte) : v &&& 0x81 &&& 0x7E = 0 := by
  rw [BitVec.and_assoc]
  exact BitVec.and_zero

theorem ioWrite_serial_inv {s : State} (h : s.serial.sc &&& 0x7E = 0) (r : IoReg) (v : Byte) :
    (ioWrite s r v).serial.sc &&& 0x7E = 0 := by
  cases r with
  | sc => exact sc_unused_clear v
  | _ => exact h

/-- The I/O map names wave bytes 0 to 15 only (63_audio.md R600). -/
theorem ioWrite_wave_array {s : State} (h : ArrayOf 16 s.audio.ch3.table) {n : Nat} {r : IoReg} (hr : r = ioRegOf n)
    (v : Byte) : ArrayOf 16 (ioWrite s r v).audio.ch3.table := by
  by_cases hk : ∃ k, r = .wave k
  · obtain ⟨k, rfl⟩ := hk
    exact h.write (ioRegOf_wave hr.symm) v
  · rw [ioWrite_table s v r fun k e => hk ⟨k, e⟩]
    exact h

/-- No mapper write selects ROM bank 0 in Variant A (20_memory.md R143). -/
theorem writeRom_bankLow_ne_zero (cfg : Config) (a : Word) (v : Byte) {cart : Cart} (h : cart.bankLow ≠ 0) :
    (writeRom cfg a v cart).bankLow ≠ 0 := by
  unfold writeRom
  cases cfg.mapper with
  | noMapper => exact h
  | variantA =>
    simp only
    split_ifs with h1 h2 h3 h4
    · exact h
    · exact show (1 : BitVec 5) ≠ 0 by decide
    · exact h3
    · exact h
    · exact h
  | variantB =>
    simp only
    split_ifs <;> exact h

/-- A cartridge RAM write stays inside the RAM (20_memory.md R149). -/
theorem writeRam_array {cfg : Config} {cart : Cart} {ram : Memory} (h : ArrayOf (ramSize cfg) ram) (a : Word)
    (v : Byte) : ArrayOf (ramSize cfg) (writeRam cfg cart a v ram) := by
  unfold writeRam
  split
  · exact h
  · next hcell => exact h.write (ramCell_lt hcell) v

/-! ## The moves of a step keep the invariant -/

namespace State.Inv

variable {s : State}

theorem mapCpu (h : s.Inv) {f : Cpu → Cpu} (hf : Keeps f) : (Machine.mapCpu f s).Inv :=
  { h with flags_low := hf s.cpu h.flags_low }

theorem ackIrq (h : s.Inv) (k : Nat) : (Machine.ackIrq k s).Inv := { h with }

theorem ioWrite (h : s.Inv) {n : Nat} {r : IoReg} (hr : r = ioRegOf n) (v : Byte) : (Machine.ioWrite s r v).Inv := by
  obtain ⟨hactive, hidx⟩ := ioWrite_dma_counter s r v
  constructor
  case wave => exact ioWrite_wave_array h.wave hr v
  case dma_idx => rw [hactive, hidx]; exact h.dma_idx
  case serial => exact ioWrite_serial_inv h.serial r v
  case video => exact ioWrite_video_inv h.video r v
  case audio => exact ioWrite_audio_inv h.audio r v
  case flags_low => rw [ioWrite_cpu]; exact h.flags_low
  case vram => rw [ioWrite_vram]; exact h.vram
  case wram => rw [ioWrite_wram]; exact h.wram
  case oam => rw [ioWrite_oam]; exact h.oam
  case hram => rw [ioWrite_hram]; exact h.hram
  case cartRam => rw [ioWrite_cartRam, ioWrite_cfg]; exact h.cartRam
  case bankLow => rw [ioWrite_cart]; exact h.bankLow

theorem busWrite (h : s.Inv) (a : Word) (v : Byte) : (Machine.busWrite s a v).Inv := by
  obtain ⟨hvram, hwram, hhram⟩ := regionOf_bounds a
  unfold Machine.busWrite
  cases hr : regionOf a with
  | rom => exact { h with bankLow := writeRom_bankLow_ne_zero s.cfg a v h.bankLow }
  | vram k => exact { h with vram := h.vram.write (hvram k hr) v }
  | cartRam => exact { h with cartRam := writeRam_array h.cartRam a v }
  | wram k => exact { h with wram := h.wram.write (hwram k hr) v }
  | oam k =>
    obtain ⟨hlow, hhigh, hk⟩ := regionOf_oam hr
    have hoam : ArrayOf 160 (if s.dma.active then s.oam else s.oam.write k v) := by
      split
      · exact h.oam
      · exact h.oam.write (by omega) v
    exact { h with oam := hoam }
  | unmapped => exact h
  | io r =>
    obtain ⟨-, -, hreg⟩ := regionOf_io hr
    exact h.ioWrite hreg v
  | hram k => exact { h with hram := h.hram.write (hhram k hr) v }
  | ie => exact { h with }

end State.Inv

/-- The transfer counter stays in range: it leaves 159 only by ending the transfer, and a start sets it to 0
(61_timer_dma_joypad.md R461). -/
theorem dmaStep_idx_lt {d : Dma} (h : d.active = true → d.idx < 160) :
    (dmaStart (dmaAdvance d)).active = true → (dmaStart (dmaAdvance d)).idx < 160 := by
  have hadvance : (dmaAdvance d).active = true → (dmaAdvance d).idx < 160 := by
    unfold dmaAdvance
    split
    · next hactive =>
      intro hnext
      have hidx := h hactive
      simp only [decide_eq_true_eq] at hnext ⊢
      omega
    · exact h
  unfold dmaStart
  split
  · exact fun _ => Nat.zero_lt_succ _
  · exact hadvance

/-- The transfer's byte of a tick lands inside OAM. -/
theorem dmaStage_oam_array {s : State} (hoam : ArrayOf 160 s.oam) (hidx : s.dma.active = true → s.dma.idx < 160) :
    ArrayOf 160 (dmaStage s).oam := by
  unfold dmaStage
  simp only
  split
  · next hactive => exact hoam.write (hidx hactive) _
  · exact hoam

theorem State.Inv.tick {s : State} (h : s.Inv) : (Machine.tick s).Inv where
  flags_low := h.flags_low
  vram := h.vram
  wram := h.wram
  oam := dmaStage_oam_array (s := audioStage (videoStage s)) h.oam h.dma_idx
  hram := h.hram
  cartRam := h.cartRam
  wave := by rw [tick_audio, audioTick_table]; exact h.wave
  bankLow := h.bankLow
  dma_idx := dmaStep_idx_lt h.dma_idx
  serial := h.serial
  video := videoTick_inv s.vram s.oam h.video
  audio := audioTick_inv s.cfg s.timer.div16 h.audio

/-- Settles O60: a step is a run of register changes, ticks, bus writes and cleared requests, and each of these four
keeps the invariant. -/
theorem invKeptByStep : Obligations.InvKeptByStep := fun _ _ h hstep =>
  (step_moves hstep).keeps h (fun _ _ hf h => h.mapCpu hf) (fun _ h => h.tick) (fun _ a v h => h.busWrite a v)
    fun _ k h => h.ackIrq k

end Sys2Proof.Machine
end

section
/-! PROOF. The bus, the cartridge controllers and the boot latch (spec/20_memory.md): what a read shows and a write does
by the region of the address, the controllers' effective addresses as sums of offsets and banks, and RAM read after
write. -/

namespace Sys2Proof.Machine

variable {s : State} {a : Word}

/-! ## Reads and writes by region -/

/-- The boot overlay lies over ROM addresses only (20_memory.md R102). -/
theorem not_overlay_of_region {r : Region} (h : regionOf a = r) (hr : r ≠ .rom) :
    ¬(a.toNat ≤ 0xFF ∧ s.bootDisabled = false) := by
  rintro ⟨hlow, -⟩
  exact hr (h.symm.trans (regionOf_rom (Nat.le_trans hlow (by decide))))

theorem busRead_overlay (h : a.toNat ≤ 0xFF) (hb : s.bootDisabled = false) :
    busRead s a = s.cfg.bootRom.read a.toNat := if_pos ⟨h, hb⟩

theorem busRead_rom (h : a.toNat ≤ 0x7FFF) (hb : 0xFF < a.toNat ∨ s.bootDisabled = true) :
    busRead s a = readRom s.cfg s.cart a := by
  unfold busRead
  rw [if_neg (not_overlay hb), regionOf_rom h]

theorem busWrite_rom (h : a.toNat ≤ 0x7FFF) (v : Byte) :
    busWrite s a v = { s with cart := writeRom s.cfg a v s.cart } := by
  unfold busWrite
  rw [regionOf_rom h]

theorem State.maps_vram {k : Nat} (h : regionOf a = .vram k) :
    s.Maps a (s.vram.read k) fun v => { s with vram := s.vram.write k v } :=
  ⟨by rw [busRead, if_neg (not_overlay_of_region h nofun), h], fun v => by rw [busWrite, h]⟩

theorem State.maps_cartRam (h : regionOf a = .cartRam) :
    s.Maps a (readRam s.cfg s.cart s.cartRam a) fun v =>
      { s with cartRam := writeRam s.cfg s.cart a v s.cartRam } :=
  ⟨by rw [busRead, if_neg (not_overlay_of_region h nofun), h], fun v => by rw [busWrite, h]⟩

theorem State.maps_wram {k : Nat} (h : regionOf a = .wram k) :
    s.Maps a (s.wram.read k) fun v => { s with wram := s.wram.write k v } :=
  ⟨by rw [busRead, if_neg (not_overlay_of_region h nofun), h], fun v => by rw [busWrite, h]⟩

theorem State.maps_oam {k : Nat} (h : regionOf a = .oam k) (hdma : s.dma.active = false) :
    s.Maps a (s.oam.read k) fun v => { s with oam := s.oam.write k v } := by
  constructor
  · unfold busRead; rw [if_neg (not_overlay_of_region h nofun), h]; simp [hdma]
  · intro v; unfold busWrite; rw [h]; simp [hdma]

theorem State.maps_unmapped (h : regionOf a = .unmapped) : s.Maps a 0x00 fun _ => s :=
  ⟨by rw [busRead, if_neg (not_overlay_of_region h nofun), h], fun v => by rw [busWrite, h]⟩

theorem State.maps_hram {k : Nat} (h : regionOf a = .hram k) :
    s.Maps a (s.hram.read k) fun v => { s with hram := s.hram.write k v } :=
  ⟨by rw [busRead, if_neg (not_overlay_of_region h nofun), h], fun v => by rw [busWrite, h]⟩

theorem State.maps_ie (h : regionOf a = .ie) : s.Maps a s.ie fun v => { s with ie := v } :=
  ⟨by rw [busRead, if_neg (not_overlay_of_region h nofun), h], fun v => by rw [busWrite, h]⟩

/-! ## Cartridge RAM by the cell an address names -/

theorem State.maps_ramCell {i : Nat} (h : regionOf a = .cartRam) (hcell : ramCell s.cfg s.cart a = some i) :
    s.Maps a (s.cartRam.read i) fun v => { s with cartRam := s.cartRam.write i v } := by
  obtain ⟨hread, hwrite⟩ := State.maps_cartRam (s := s) h
  exact ⟨by simp only [hread, readRam, hcell], fun v => by simp only [hwrite, writeRam, hcell]⟩

/-- Cartridge RAM that is off or absent reads 0xFF and takes no write (20_memory.md R149). -/
theorem State.maps_noRamCell (h : regionOf a = .cartRam) (hcell : ramCell s.cfg s.cart a = none) :
    s.Maps a 0xFF fun _ => s := by
  obtain ⟨hread, hwrite⟩ := State.maps_cartRam (s := s) h
  exact ⟨by simp only [hread, readRam, hcell], fun v => by simp only [hwrite, writeRam, hcell]⟩

/-! ## Fields of words as numbers -/

theorem toNat_append_eq_add {m n : Nat} (x : BitVec m) (y : BitVec n) :
    (x ++ y).toNat = x.toNat * 2 ^ n + y.toNat := by
  rw [BitVec.toNat_append, ← Nat.shiftLeft_add_eq_or_of_lt y.isLt, Nat.shiftLeft_eq]

theorem extractLsb'_eq_ofNat {w : Nat} (v : BitVec w) (lo n : Nat) :
    v.extractLsb' lo n = BitVec.ofNat n (v.toNat / 2 ^ lo) := by
  rw [← Nat.shiftRight_eq_div_pow]
  rfl

theorem extractLsb'_zero_eq_ofNat {w : Nat} (v : BitVec w) (n : Nat) : v.extractLsb' 0 n = BitVec.ofNat n v.toNat := by
  rw [extractLsb'_eq_ofNat, Nat.pow_zero, Nat.div_one]

theorem lowNibble_beq_ten (v : Byte) : (v &&& 0x0F == 0x0A) = decide (v.toNat % 16 = 10) := by
  have hmask : (v &&& 0x0F).toNat = v.toNat % 16 := Nat.and_two_pow_sub_one_eq_mod _ 4
  rw [Bool.beq_eq_decide_eq, decide_eq_decide, ← BitVec.toNat_inj, hmask]
  rfl

theorem getLsbD_zero_eq_odd (v : Byte) : v.getLsbD 0 = decide (v.toNat % 2 = 1) := by
  rw [← BitVec.testBit_toNat, Nat.testBit_zero]

theorem ofNat_toNat_eq_zero_iff (v : Byte) (n : Nat) : BitVec.ofNat n v.toNat = 0 ↔ v.toNat % 2 ^ n = 0 := by
  rw [← BitVec.toNat_inj, BitVec.toNat_ofNat]
  simp

/-! ## Addresses as sums of an offset and a bank -/

theorem or_shiftLeft_eq_add {low i : Nat} (h : low < 2 ^ i) (bank : Nat) :
    low ||| bank <<< i = low + 2 ^ i * bank := by
  rw [Nat.or_comm, ← Nat.shiftLeft_add_eq_or_of_lt h, Nat.shiftLeft_eq, Nat.add_comm, Nat.mul_comm]

theorem or_gated_shiftLeft_eq_add {low i : Nat} (h : low < 2 ^ i) (b : Bool) (bank : Nat) :
    (low ||| if b = true then bank <<< i else 0) = low + if b = true then 2 ^ i * bank else 0 := by
  cases b
  · exact Nat.or_zero _
  · exact or_shiftLeft_eq_add h bank

theorem and_windowMask (a : Word) : a.toNat &&& 0x3FFF = a.toNat % 0x4000 := Nat.and_two_pow_sub_one_eq_mod _ 14

theorem and_ramMask (h : 0xA000 ≤ a.toNat) (h2 : a.toNat ≤ 0xBFFF) : a.toNat &&& 0x1FFF = a.toNat - 0xA000 := by
  rw [show a.toNat &&& 0x1FFF = a.toNat % 0x2000 from Nat.and_two_pow_sub_one_eq_mod _ 13]
  omega

/-- Address bit 14 tells the fixed ROM window from the banked one. -/
theorem window_eq (h : a.toNat ≤ 0x7FFF) : a.getLsbD 14 = decide (0x4000 ≤ a.toNat) := by
  rw [← BitVec.testBit_toNat, Nat.testBit_eq_decide_div_mod_eq, decide_eq_decide]
  omega

/-! ## No mapper -/

theorem romAddr_noMapper {cfg : Config} (hm : cfg.mapper = .noMapper) (cart : Cart) (a : Word) :
    romAddr cfg cart a = a.toNat % 0x8000 := by
  simp only [romAddr, hm]
  exact Nat.and_two_pow_sub_one_eq_mod _ 15

theorem writeRom_noMapper {cfg : Config} (hm : cfg.mapper = .noMapper) (a : Word) (v : Byte) (cart : Cart) :
    writeRom cfg a v cart = cart := by
  simp only [writeRom, hm]

theorem ramCell_noMapper {cfg : Config} (hm : cfg.mapper = .noMapper) (cart : Cart) (a : Word) :
    ramCell cfg cart a = none := by
  simp only [ramCell, hm, ite_self]

/-- Settles O48: the three functions of the controller, with no mapper, put into what the regions map to. -/
theorem noMapper : Obligations.NoMapper := by
  intro s a v hm
  refine ⟨fun h => ⟨?_, fun hb => ?_⟩, fun h h2 => ?_⟩
  · rw [busWrite_rom h, writeRom_noMapper hm]
  · rw [busRead_rom h hb, readRom, romAddr_noMapper hm]
  · obtain ⟨hread, hwrite⟩ := State.maps_noRamCell (regionOf_cartRam h h2) (ramCell_noMapper hm s.cart a)
    exact ⟨hread, hwrite v⟩

/-! ## Gated RAM -/

/-- In both variants the RAM is shown while it is enabled and present (20_memory.md R145, R148). -/
theorem cartRam_gated (h : 0xA000 ≤ a.toNat) (h2 : a.toNat ≤ 0xBFFF) (v : Byte) {i : Nat}
    (hcell : ramCell s.cfg s.cart a = if s.cart.ramEnable = true ∧ ramSize s.cfg ≠ 0 then some i else none) :
    if s.cart.ramEnable = true ∧ ramSize s.cfg ≠ 0 then
      busRead s a = s.cartRam.read i ∧ busWrite s a v = { s with cartRam := s.cartRam.write i v }
    else busRead s a = 0xFF ∧ busWrite s a v = s := by
  have hreg := regionOf_cartRam h h2
  split at hcell
  · next hon =>
    rw [if_pos hon]
    obtain ⟨hread, hwrite⟩ := State.maps_ramCell hreg hcell
    exact ⟨hread, hwrite v⟩
  · next hoff =>
    rw [if_neg hoff]
    obtain ⟨hread, hwrite⟩ := State.maps_noRamCell hreg hcell
    exact ⟨hread, hwrite v⟩

/-- The gate of `ramCell`, in the order the statements name it. -/
theorem ramGate_iff (cfg : Config) (cart : Cart) :
    (ramSize cfg = 0 ∨ cart.ramEnable = false) ↔ ¬(cart.ramEnable = true ∧ ramSize cfg ≠ 0) := by
  rw [not_and_or, not_not, Bool.not_eq_true, or_comm]

/-! ## Variant A -/

section VariantA

variable {cfg : Config} {cart : Cart}

theorem romAddr_variantA_fixed (hm : cfg.mapper = .variantA) (h : a.toNat ≤ 0x3FFF) :
    romAddr cfg cart a = a.toNat + if cart.mode = true then 0x80000 * cart.bankHigh.toNat else 0 := by
  have hwin : a.getLsbD 14 = false := by rw [window_eq (by omega)]; exact decide_eq_false (by omega)
  have hlow : a.toNat % 0x4000 = a.toNat := Nat.mod_eq_of_lt (by omega)
  simp only [romAddr, hm, hwin, and_windowMask, hlow]
  exact or_gated_shiftLeft_eq_add (show a.toNat < 2 ^ 19 by omega) _ _

theorem romAddr_variantA_banked (hm : cfg.mapper = .variantA) (h : 0x4000 ≤ a.toNat) (h2 : a.toNat ≤ 0x7FFF) :
    romAddr cfg cart a = a.toNat - 0x4000 + 0x4000 * cart.bankLow.toNat + 0x80000 * cart.bankHigh.toNat := by
  have hwin : a.getLsbD 14 = true := by rw [window_eq h2]; exact decide_eq_true h
  have hlow : a.toNat % 0x4000 = a.toNat - 0x4000 := by omega
  have hbank := cart.bankLow.isLt
  simp only [romAddr, hm, hwin, and_windowMask, hlow, if_true]
  rw [or_shiftLeft_eq_add (show a.toNat - 0x4000 < 2 ^ 14 by omega),
    or_shiftLeft_eq_add (show a.toNat - 0x4000 + 2 ^ 14 * cart.bankLow.toNat < 2 ^ 19 by omega)]
  rfl

theorem ramCell_variantA (hm : cfg.mapper = .variantA) (h : 0xA000 ≤ a.toNat) (h2 : a.toNat ≤ 0xBFFF) :
    ramCell cfg cart a =
      if cart.ramEnable = true ∧ ramSize cfg ≠ 0 then
        some ((a.toNat - 0xA000 + if cart.mode = true then 0x2000 * cart.bankHigh.toNat else 0) % ramSize cfg)
      else none := by
  have hea : (a.toNat - 0xA000) ||| (if cart.mode then cart.bankHigh.toNat <<< 13 else 0) =
      a.toNat - 0xA000 + if cart.mode = true then 0x2000 * cart.bankHigh.toNat else 0 :=
    or_gated_shiftLeft_eq_add (show a.toNat - 0xA000 < 2 ^ 13 by omega) _ _
  simp only [ramCell, hm, and_ramMask h h2, ramGate_iff, hea, ite_not]

variable {v : Byte}

theorem writeRom_variantA_ramEnable (hm : cfg.mapper = .variantA) (h : a.toNat ≤ 0x1FFF) :
    writeRom cfg a v cart = { cart with ramEnable := decide (v.toNat % 16 = 10) } := by
  simp only [writeRom, hm, if_pos h, lowNibble_beq_ten]

/-- The bank number kept has five bits, and 0 becomes 1. -/
theorem writeRom_variantA_bankLow (hm : cfg.mapper = .variantA) (h : 0x2000 ≤ a.toNat)
    (h2 : a.toNat ≤ 0x3FFF) :
    writeRom cfg a v cart = { cart with bankLow := if v.toNat % 32 = 0 then 1 else BitVec.ofNat 5 v.toNat } := by
  simp only [writeRom, hm, if_neg (show ¬a.toNat ≤ 0x1FFF by omega), if_pos h2, extractLsb'_zero_eq_ofNat,
    ofNat_toNat_eq_zero_iff]
  rfl

theorem writeRom_variantA_bankHigh (hm : cfg.mapper = .variantA) (h : 0x4000 ≤ a.toNat)
    (h2 : a.toNat ≤ 0x5FFF) : writeRom cfg a v cart = { cart with bankHigh := BitVec.ofNat 2 v.toNat } := by
  simp only [writeRom, hm, if_neg (show ¬a.toNat ≤ 0x1FFF by omega), if_neg (show ¬a.toNat ≤ 0x3FFF by omega),
    if_pos h2, extractLsb'_zero_eq_ofNat]

theorem writeRom_variantA_mode (hm : cfg.mapper = .variantA) (h : 0x6000 ≤ a.toNat) :
    writeRom cfg a v cart = { cart with mode := decide (v.toNat % 2 = 1) } := by
  simp only [writeRom, hm, if_neg (show ¬a.toNat ≤ 0x1FFF by omega), if_neg (show ¬a.toNat ≤ 0x3FFF by omega),
    if_neg (show ¬a.toNat ≤ 0x5FFF by omega), getLsbD_zero_eq_odd]

end VariantA

/-- Settles O46: the controller's functions clause by clause, put into what the regions map to. -/
theorem variantA : Obligations.VariantA := by
  intro s a v hm
  refine ⟨fun h => ?_, fun h h2 => ?_, fun h h2 => ?_, fun h h2 => ?_, fun h hb => ?_,
    fun h h2 => ?_, fun h h2 => ?_⟩
  · rw [busWrite_rom (by omega), writeRom_variantA_ramEnable hm h]
  · rw [busWrite_rom (by omega), writeRom_variantA_bankLow hm h h2]
  · rw [busWrite_rom (by omega), writeRom_variantA_bankHigh hm h h2]
  · rw [busWrite_rom h2, writeRom_variantA_mode hm h]
  · rw [busRead_rom (by omega) hb, readRom, romAddr_variantA_fixed hm h]
  · rw [busRead_rom h2 (.inl (by omega)), readRom, romAddr_variantA_banked hm h h2]
  · exact cartRam_gated h h2 v (ramCell_variantA hm h h2)

/-! ## Variant B -/

section VariantB

variable {cfg : Config} {cart : Cart}

theorem romAddr_variantB_fixed (hm : cfg.mapper = .variantB) (h : a.toNat ≤ 0x3FFF) :
    romAddr cfg cart a = a.toNat := by
  have hwin : a.getLsbD 14 = false := by rw [window_eq (by omega)]; exact decide_eq_false (by omega)
  simp only [romAddr, hm, hwin, and_windowMask]
  exact Nat.mod_eq_of_lt (by omega)

theorem romAddr_variantB_banked (hm : cfg.mapper = .variantB) (h : 0x4000 ≤ a.toNat) (h2 : a.toNat ≤ 0x7FFF) :
    romAddr cfg cart a = a.toNat - 0x4000 + 0x4000 * cart.romBank.toNat := by
  have hwin : a.getLsbD 14 = true := by rw [window_eq h2]; exact decide_eq_true h
  have hlow : a.toNat % 0x4000 = a.toNat - 0x4000 := by omega
  simp only [romAddr, hm, hwin, and_windowMask, hlow, if_true]
  exact or_shiftLeft_eq_add (show a.toNat - 0x4000 < 2 ^ 14 by omega) _

theorem ramCell_variantB (hm : cfg.mapper = .variantB) (h : 0xA000 ≤ a.toNat) (h2 : a.toNat ≤ 0xBFFF) :
    ramCell cfg cart a =
      if cart.ramEnable = true ∧ ramSize cfg ≠ 0 then
        some ((a.toNat - 0xA000 + 0x2000 * cart.ramBank.toNat) % ramSize cfg)
      else none := by
  have hea : (a.toNat - 0xA000) ||| cart.ramBank.toNat <<< 13 = a.toNat - 0xA000 + 0x2000 * cart.ramBank.toNat :=
    or_shiftLeft_eq_add (show a.toNat - 0xA000 < 2 ^ 13 by omega) _
  simp only [ramCell, hm, and_ramMask h h2, ramGate_iff, hea, ite_not]

variable {v : Byte}

theorem writeRom_variantB_ramEnable (hm : cfg.mapper = .variantB) (h : a.toNat ≤ 0x1FFF) :
    writeRom cfg a v cart = { cart with ramEnable := decide (v = 0x0A) } := by
  simp only [writeRom, hm, if_pos h, Bool.beq_eq_decide_eq]

/-- A write of the low port keeps bit 8 of the ROM bank (20_memory.md R146). -/
theorem romBank_low (b : BitVec 9) (v : Byte) :
    b.extractLsb' 8 1 ++ v = BitVec.ofNat 9 (256 * (b.toNat / 256) + v.toNat) := by
  have hb := b.isLt
  have hv := v.isLt
  apply BitVec.eq_of_toNat_eq
  rw [extractLsb'_eq_ofNat, toNat_append_eq_add, BitVec.toNat_ofNat, BitVec.toNat_ofNat]
  omega

/-- A write of the high port keeps bits 7 to 0 of the ROM bank (20_memory.md R146). -/
theorem romBank_high (b : BitVec 9) (v : Byte) :
    v.extractLsb' 0 1 ++ b.extractLsb' 0 8 = BitVec.ofNat 9 (256 * (v.toNat % 2) + b.toNat % 256) := by
  apply BitVec.eq_of_toNat_eq
  rw [extractLsb'_zero_eq_ofNat, extractLsb'_eq_ofNat, toNat_append_eq_add, BitVec.toNat_ofNat, BitVec.toNat_ofNat,
    BitVec.toNat_ofNat]
  omega

theorem writeRom_variantB_romBankLow (hm : cfg.mapper = .variantB) (h : 0x2000 ≤ a.toNat) (h2 : a.toNat ≤ 0x2FFF) :
    writeRom cfg a v cart =
      { cart with romBank := BitVec.ofNat 9 (256 * (cart.romBank.toNat / 256) + v.toNat) } := by
  simp only [writeRom, hm, if_neg (show ¬a.toNat ≤ 0x1FFF by omega), if_pos h2, romBank_low]

theorem writeRom_variantB_romBankHigh (hm : cfg.mapper = .variantB) (h : 0x3000 ≤ a.toNat) (h2 : a.toNat ≤ 0x3FFF) :
    writeRom cfg a v cart =
      { cart with romBank := BitVec.ofNat 9 (256 * (v.toNat % 2) + cart.romBank.toNat % 256) } := by
  simp only [writeRom, hm, if_neg (show ¬a.toNat ≤ 0x1FFF by omega), if_neg (show ¬a.toNat ≤ 0x2FFF by omega),
    if_pos h2, romBank_high]

theorem writeRom_variantB_ramBank (hm : cfg.mapper = .variantB) (h : 0x4000 ≤ a.toNat) (h2 : a.toNat ≤ 0x5FFF) :
    writeRom cfg a v cart = { cart with ramBank := BitVec.ofNat 4 v.toNat } := by
  simp only [writeRom, hm, if_neg (show ¬a.toNat ≤ 0x1FFF by omega), if_neg (show ¬a.toNat ≤ 0x2FFF by omega),
    if_neg (show ¬a.toNat ≤ 0x3FFF by omega), if_pos h2, extractLsb'_zero_eq_ofNat]

theorem writeRom_variantB_unused (hm : cfg.mapper = .variantB) (h : 0x6000 ≤ a.toNat) :
    writeRom cfg a v cart = cart := by
  simp only [writeRom, hm, if_neg (show ¬a.toNat ≤ 0x1FFF by omega), if_neg (show ¬a.toNat ≤ 0x2FFF by omega),
    if_neg (show ¬a.toNat ≤ 0x3FFF by omega), if_neg (show ¬a.toNat ≤ 0x5FFF by omega)]

end VariantB

/-- Settles O47: the controller's functions clause by clause, put into what the regions map to. -/
theorem variantB : Obligations.VariantB := by
  intro s a v hm
  refine ⟨fun h => ?_, fun h h2 => ?_, fun h h2 => ?_, fun h h2 => ?_, fun h h2 => ?_, fun h hb => ?_,
    fun h h2 => ?_, fun h h2 => ?_⟩
  · rw [busWrite_rom (by omega), writeRom_variantB_ramEnable hm h]
  · rw [busWrite_rom (by omega), writeRom_variantB_romBankLow hm h h2]
  · rw [busWrite_rom (by omega), writeRom_variantB_romBankHigh hm h h2]
  · rw [busWrite_rom (by omega), writeRom_variantB_ramBank hm h h2]
  · rw [busWrite_rom h2, writeRom_variantB_unused hm h]
  · rw [busRead_rom (by omega) hb, readRom, romAddr_variantB_fixed hm h]
  · rw [busRead_rom h2 (.inl (by omega)), readRom, romAddr_variantB_banked hm h h2]
  · exact cartRam_gated h h2 v (ramCell_variantB hm h h2)

/-! ## The work RAM mirror -/

theorem toNat_unmirrored (h : 0xE000 ≤ a.toNat) : (a - 0x2000).toNat = a.toNat - 0x2000 := by
  bv_omega

/-- A WRAM region means an address of work RAM or of its mirror (20_memory.md R108). -/
theorem regionOf_eq_wram {k : Nat} (h : regionOf a = .wram k) :
    (0xC000 ≤ a.toNat ∧ a.toNat ≤ 0xDFFF ∧ k = a.toNat - 0xC000) ∨
      (0xE000 ≤ a.toNat ∧ a.toNat ≤ 0xFDFF ∧ k = a.toNat - 0xE000) := by
  unfold regionOf at h
  simp only at h
  split_ifs at h <;> have hk := Region.wram.inj h <;> omega

/-- Settles O42: both addresses name one WRAM offset, and the mirror ends at offset 0x1DFF. -/
theorem echoRam : Obligations.EchoRam := by
  constructor
  · intro s a h h2
    have hlow : regionOf (a - 0x2000) = .wram (a.toNat - 0xE000) := by
      have hsub := toNat_unmirrored h
      rw [regionOf_wram (by omega) (by omega), hsub, Nat.sub_sub]
    obtain ⟨hread, hwrite⟩ := State.maps_wram (s := s) (regionOf_echo h h2)
    obtain ⟨hread', hwrite'⟩ := State.maps_wram (s := s) hlow
    exact ⟨hread, hread.trans hread'.symm, fun v => ⟨hwrite v, (hwrite v).trans (hwrite' v).symm⟩⟩
  · intro a k h hk
    rcases regionOf_eq_wram h with ⟨hlow, hhigh, hoff⟩ | ⟨hlow, hhigh, hoff⟩ <;> omega

/-! ## RAM read after write -/

/-- The byte of console RAM a region names: the three RAMs the CPU always reaches. -/
def Region.ramLoc : Region → Option Loc
  | .vram k => some (.vram k)
  | .wram k => some (.wram k)
  | .hram k => some (.hram k)
  | _ => none

theorem Region.ramLoc_inj {r q : Region} {l : Loc} (hr : r.ramLoc = some l) (hq : q.ramLoc = some l) : r = q := by
  cases r <;> cases hr <;> cases q <;> cases hq <;> rfl

theorem ramLoc_of_ramAddr (h : ramAddr a ∨ (0x8000 ≤ a.toNat ∧ a.toNat ≤ 0x9FFF)) :
    ∃ l, (regionOf a).ramLoc = some l := by
  rcases h with h | ⟨h, h2⟩
  · rcases ramAddr_region h with ⟨k, hk⟩ | ⟨k, hk⟩
    · exact ⟨.wram k, by rw [hk]; rfl⟩
    · exact ⟨.hram k, by rw [hk]; rfl⟩
  · exact ⟨_, by rw [regionOf_vram h h2]; rfl⟩

theorem storeLoc_of_ramLoc {l : Loc} (h : (regionOf a).ramLoc = some l) : storeLoc s a = some l := by
  unfold storeLoc
  cases hr : regionOf a <;> rw [hr] at h <;> cases h <;> rfl

theorem busRead_of_ramLoc {l : Loc} (h : (regionOf a).ramLoc = some l) : busRead s a = s.byteAt l := by
  cases hr : regionOf a <;> rw [hr] at h <;> cases h
  · exact (State.maps_vram hr).1
  · exact (State.maps_wram hr).1
  · exact (State.maps_hram hr).1

theorem busWrite_ram_frame {l : Loc} (h : (regionOf a).ramLoc = some l) (v : Byte) :
    ∃ vram wram hram, busWrite s a v = { s with vram := vram, wram := wram, hram := hram } := by
  cases hr : regionOf a <;> rw [hr] at h <;> cases h
  · exact ⟨_, _, _, (State.maps_vram hr).2 v⟩
  · exact ⟨_, _, _, (State.maps_wram hr).2 v⟩
  · exact ⟨_, _, _, (State.maps_hram hr).2 v⟩

/-- Outside console RAM its bytes play no part in a read. -/
theorem busRead_of_ramLoc_none {b : Word} (h : (regionOf b).ramLoc = none) (vram wram hram : Memory) :
    busRead { s with vram := vram, wram := wram, hram := hram } b = busRead s b := by
  unfold busRead
  split
  · rfl
  · cases hr : regionOf b with
    | io r => cases r <;> rfl
    | vram k => rw [hr] at h; cases h
    | wram k => rw [hr] at h; cases h
    | hram k => rw [hr] at h; cases h
    | _ => rfl

/-- Settles O43: a read of console RAM shows the byte stored there, which a write to another byte keeps; a read of
anything else does not see console RAM. -/
theorem ramReadBack : Obligations.RamReadBack := by
  intro s a b v hram
  obtain ⟨l, ha⟩ := ramLoc_of_ramAddr hram
  cases hb : (regionOf b).ramLoc with
  | none =>
    have hne : regionOf b ≠ regionOf a := fun h => by rw [h, ha] at hb; cases hb
    obtain ⟨vram, wram, hram, hwrite⟩ := busWrite_ram_frame (s := s) ha v
    rw [if_neg hne, hwrite, busRead_of_ramLoc_none hb]
  | some m =>
    have hiff : some l = some m ↔ regionOf b = regionOf a := by
      constructor
      · rintro ⟨⟩; exact Region.ramLoc_inj hb ha
      · intro h; rw [← ha, ← hb, h]
    rw [busRead_of_ramLoc hb, busRead_of_ramLoc hb, busWrite_byteAt, storeLoc_of_ramLoc ha]
    simp only [hiff]

/-! ## The boot latch and the parameters -/

/-- Only a non-zero write of 0xFF50 moves the boot latch, and only to set (20_memory.md R102). -/
theorem busWrite_keeps_latch (a : Word) (v : Byte) (h : s.bootDisabled = true) :
    (busWrite s a v).bootDisabled = true := by
  unfold busWrite
  cases regionOf a with
  | io r =>
    cases r with
    | bootDisable => exact Bool.or_eq_true_iff.2 (.inl h)
    | _ => exact h
  | _ => exact h

/-- The parameters are those of `s`, and the boot latch is set if it was set in `s`. -/
def State.KeepsImages (s t : State) : Prop := t.cfg = s.cfg ∧ (s.bootDisabled = true → t.bootDisabled = true)

theorem State.KeepsImages.busWrite {t : State} (h : s.KeepsImages t) (a : Word) (v : Byte) :
    s.KeepsImages (Machine.busWrite t a v) := by
  obtain ⟨hcfg, hlatch⟩ := h
  exact ⟨(busWrite_cfg t a v).trans hcfg, fun hs => busWrite_keeps_latch a v (hlatch hs)⟩

/-- Settles O44: of the four moves of a step only a bus write reaches the latch, and none the parameters. -/
theorem latchAndImagesKept : Obligations.LatchAndImagesKept := fun s _ hstep =>
  (step_moves hstep).keeps (P := s.KeepsImages) ⟨rfl, id⟩ (fun _ _ _ h => h) (fun _ h => h)
    (fun _ a v h => h.busWrite a v) fun _ _ h => h

end Sys2Proof.Machine
end

section
/-! PROOF. The bus decode (spec/20_memory.md R101 to R107): each I/O register's read value and write effect as numbers
and bits, and with the regions the whole decode. -/

namespace Sys2Proof.Machine

variable {s : State}

/-! ## Fields as numbers -/

theorem fieldNat_eq (v : Byte) (lo len : Nat) : fieldNat v lo len = v.toNat / 2 ^ lo % 2 ^ len := by
  rw [fieldNat, BitVec.extractLsb'_toNat, Nat.shiftRight_eq_div_pow]

theorem fieldNat_low (v : Byte) (len : Nat) : fieldNat v 0 len = v.toNat % 2 ^ len := by
  rw [fieldNat_eq, Nat.pow_zero, Nat.div_one]

theorem fieldNat_highNibble (v : Byte) : fieldNat v 4 4 = v.toNat / 16 := by
  have hv := v.isLt
  rw [fieldNat_eq]
  omega

/-! ## The I/O window by the low byte of the address -/

theorem toNat_ioAddr {n : Nat} (hn : n < 0x80) : (BitVec.ofNat 16 (0xFF00 + n)).toNat = 0xFF00 + n := by
  rw [BitVec.toNat_ofNat]
  omega

theorem State.maps_ioAt (s : State) (n : Nat) (r : IoReg) (hn : n < 0x80 := by decide)
    (h : ioRegOf n = r := by rfl) : s.Maps (BitVec.ofNat 16 (0xFF00 + n)) (ioRead s r) (ioWrite s r) := by
  have haddr := toNat_ioAddr hn
  apply State.maps_io
  rw [regionOf_ioRange (by omega) (by omega), haddr, Nat.add_sub_cancel_left, h]

/-- The same clause with its read value and its write effect put another way. -/
theorem State.Maps.congr {a : Word} {r r' : Byte} {w w' : Byte → State} (h : s.Maps a r w) (hr : r = r')
    (hw : ∀ v, w v = w' v) : s.Maps a r' w' :=
  ⟨h.1.trans hr, fun v => (h.2 v).trans (hw v)⟩

/-! ## P1, serial, timer, IF, DMA and the boot latch -/

/-- A line reads 0 where a selected group has its key down (61_timer_dma_joypad.md R470). -/
theorem pollLines_getLsbD (cfg : Config) (t : Nat) (sel : BitVec 2) {i : Nat} (hi : i < 4) :
    (pollLines cfg t sel).getLsbD i = false ↔
      (sel.getLsbD 0 = false ∧ (inputAt cfg t).dpad.getLsbD i = false) ∨
        (sel.getLsbD 1 = false ∧ (inputAt cfg t).buttons.getLsbD i = false) := by
  have hidle : (0xF : BitVec 4).getLsbD i = true := by interval_cases i <;> rfl
  have hgroup : ∀ (b : Bool) (m : BitVec 4),
      (if b = true then 0xF else m).getLsbD i = false ↔ b = false ∧ m.getLsbD i = false := by
    rintro (_ | _) m
    · simp
    · simpa using hidle
  rw [pollLines, BitVec.getLsbD_and, Bool.and_eq_false_iff, hgroup, hgroup]

/-- A poll requests its interrupt exactly when a line falls (61_timer_dma_joypad.md R471). -/
theorem joypadIrq_of_fall {old new : BitVec 4} (h : ∃ i, i < 4 ∧ old.getLsbD i = true ∧ new.getLsbD i = false) :
    joypadIrq old new = 0x10 := by
  obtain ⟨i, hi, hold, hnew⟩ := h
  have hfell : (old &&& ~~~new).getLsbD i = true := by
    rw [BitVec.getLsbD_and, BitVec.getLsbD_not, hold, hnew, decide_eq_true hi]
    rfl
  have hne : old &&& ~~~new ≠ 0 := fun h0 => by
    rw [h0] at hfell
    exact Bool.false_ne_true (BitVec.getLsbD_zero.symm.trans hfell)
  exact if_pos (bne_iff_ne.2 hne)

theorem joypadIrq_of_no_fall {old new : BitVec 4} (h : ∀ i, i < 4 → old.getLsbD i = true → new.getLsbD i = true) :
    joypadIrq old new = 0 := by
  have h0 : old &&& ~~~new = 0 := by
    apply BitVec.eq_of_getLsbD_eq
    intro i hi
    rw [BitVec.getLsbD_and, BitVec.getLsbD_not]
    cases hold : old.getLsbD i
    · exact BitVec.getLsbD_zero.symm
    · rw [h i hi hold, Bool.not_true, Bool.and_false, Bool.and_false]
      exact BitVec.getLsbD_zero.symm
  rw [joypadIrq, h0]
  rfl

theorem p1_toNat (sel : BitVec 2) (lines : BitVec 4) :
    (0b11#2 ++ sel ++ lines).toNat = 0xC0 + 16 * sel.toNat + lines.toNat := by
  rw [toNat_append_eq_add, toNat_append_eq_add, BitVec.toNat_ofNat]
  omega

theorem p1_sel_bits (v : Byte) :
    (v.extractLsb' 4 2).getLsbD 0 = v.getLsbD 4 ∧ (v.extractLsb' 4 2).getLsbD 1 = v.getLsbD 5 := by
  simp

theorem tac_eq (tac : BitVec 3) : 0b11111#5 ++ tac = BitVec.ofNat 8 (0xF8 + tac.toNat) := by
  have htac := tac.isLt
  apply BitVec.eq_of_toNat_eq
  rw [toNat_append_eq_add, BitVec.toNat_ofNat, BitVec.toNat_ofNat]
  omega

theorem iflag_eq (ifl : BitVec 5) : 0b111#3 ++ ifl = BitVec.ofNat 8 (0xE0 + ifl.toNat) := by
  have hifl := ifl.isLt
  apply BitVec.eq_of_toNat_eq
  rw [toNat_append_eq_add, BitVec.toNat_ofNat, BitVec.toNat_ofNat]
  omega

/-- Only a non-zero write sets the latch (20_memory.md R102). -/
theorem bootWrite_eq (v : Byte) : ioWrite s .bootDisable v = if v = 0 then s else { s with bootDisabled := true } := by
  show { s with bootDisabled := s.bootDisabled || v != 0 } = _
  split
  · next hv => rw [hv, bne_self_eq_false, Bool.or_false]
  · next hv => rw [bne_iff_ne.2 hv, Bool.or_true]

theorem State.glueRegs (s : State) : s.GlueRegs where
  p1_read := (congrArg BitVec.toNat (s.maps_ioAt 0x00 .p1).1).trans (p1_toNat _ _)
  p1_write v := by
    have hwrite : busWrite s 0xFF00 v = ioWrite s .p1 v := (s.maps_ioAt 0x00 .p1).2 v
    obtain ⟨hdpad, hbuttons⟩ := p1_sel_bits v
    rw [hwrite]
    refine ⟨rfl, ?_, fun i hi => ?_, fun hfall => ?_, fun hkeep => ?_⟩
    · exact (BitVec.extractLsb'_toNat ..).trans (by rw [Nat.shiftRight_eq_div_pow])
    · rw [← hdpad, ← hbuttons]
      exact pollLines_getLsbD _ _ _ hi
    · exact congrArg (s.ifl ||| ·) (joypadIrq_of_fall hfall)
    · exact (congrArg (s.ifl ||| ·) (joypadIrq_of_no_fall hkeep)).trans BitVec.or_zero
  sb := s.maps_ioAt 0x01 .sb
  sc := s.maps_ioAt 0x02 .sc
  div := (s.maps_ioAt 0x04 .div).congr (extractLsb'_eq_ofNat _ 6 8) fun _ => rfl
  tima := s.maps_ioAt 0x05 .tima
  tma := s.maps_ioAt 0x06 .tma
  tac := (s.maps_ioAt 0x07 .tac).congr (tac_eq _) fun v =>
    congrArg (fun e => { s with timer := { s.timer with tac := e } }) (extractLsb'_zero_eq_ofNat v 3)
  iflag := (s.maps_ioAt 0x0F .iflag).congr (iflag_eq _) fun v =>
    congrArg (fun e => { s with ifl := e }) (extractLsb'_zero_eq_ofNat v 5)
  dma := s.maps_ioAt 0x46 .dma
  boot := (s.maps_ioAt 0x50 .bootDisable).congr rfl bootWrite_eq

/-! ## The video registers -/

/-- STAT: bit 7 set, the enables, the line comparison, the mode's number (62_video.md R501). -/
theorem readStat_eq (v : Video) :
    readStat v = BitVec.ofNat 8 (0x80 + 8 * v.statEn.toNat + (if v.ly = v.lyc.toNat then 4 else 0) +
      (modeBits v.mode).toNat) := by
  have hen := v.statEn.isLt
  have hmode := (modeBits v.mode).isLt
  apply BitVec.eq_of_toNat_eq
  simp only [readStat, toNat_append_eq_add, BitVec.toNat_ofNat, BitVec.toNat_ofBool, Bool.toNat_true]
  by_cases hline : v.ly = v.lyc.toNat
  · simp only [hline, decide_true, Bool.toNat_true, if_true]
    omega
  · simp only [hline, decide_false, Bool.toNat_false, if_false]
    omega

theorem State.videoRegs (s : State) : s.VideoRegs where
  lcdc := s.maps_ioAt 0x40 .lcdc
  stat := (s.maps_ioAt 0x41 .stat).congr ((readStat_eq _).trans (by cases s.video.mode <;> rfl)) fun v =>
    congrArg (fun e => { s with video := { s.video with statEn := e } }) (extractLsb'_eq_ofNat v 3 4)
  scy := s.maps_ioAt 0x42 .scy
  scx := s.maps_ioAt 0x43 .scx
  ly := s.maps_ioAt 0x44 .ly
  lyc := s.maps_ioAt 0x45 .lyc
  bgp := s.maps_ioAt 0x47 .bgp
  obp0 := s.maps_ioAt 0x48 .obp0
  obp1 := s.maps_ioAt 0x49 .obp1
  wy := s.maps_ioAt 0x4A .wy
  wx := s.maps_ioAt 0x4B .wx

/-! ## The audio registers -/

theorem audioWrite_eq (f : Audio → Audio) (s : State) :
    audioWrite f s = if s.audio.on = true then { s with audio := f s.audio } else s := by
  unfold audioWrite
  split <;> rfl

theorem State.mapsAudioAt (s : State) (n : Nat) (r : IoReg) {x : Byte} {f : Byte → Audio} (hread : ioRead s r = x)
    (hwrite : ∀ v, ioWrite s r v = audioWrite (fun _ => f v) s) (hn : n < 0x80 := by decide)
    (h : ioRegOf n = r := by rfl) : s.MapsAudio (BitVec.ofNat 16 (0xFF00 + n)) x f :=
  (s.maps_ioAt n r hn h).congr hread fun v => (hwrite v).trans (audioWrite_eq _ s)

/-- The DAC is on exactly when one of the register's bits 7 to 3 is set (63_audio.md R585). -/
theorem dacOf_eq (v : Byte) : dacOf v = decide (8 ≤ v.toNat) := by
  revert v
  decide

theorem Square.writeEnv_eq (v : Byte) (q : Square) :
    q.writeEnv v =
      { q with nrx2 := v, dac := decide (8 ≤ v.toNat), active := q.active && decide (8 ≤ v.toNat) } := by
  rw [Square.writeEnv, dacOf_eq]

theorem Noise.writeEnv_eq (v : Byte) (n : Noise) :
    n.writeEnv v =
      { n with nr42 := v, dac := decide (8 ≤ v.toNat), active := n.active && decide (8 ≤ v.toNat) } := by
  rw [Noise.writeEnv, dacOf_eq]

theorem Square.writeControl_eq (v : Byte) (q : Square) : q.writeControl v = q.afterControl v := by
  simp only [Square.writeControl, Square.afterControl, Square.trigger, bit, fieldNat_highNibble, fieldNat_low]
  rfl

theorem Wave.writeControl_eq (v : Byte) (w : Wave) : w.writeControl v = w.afterControl v := rfl

theorem Noise.writeControl_eq (v : Byte) (n : Noise) : n.writeControl v = n.afterControl v := by
  simp only [Noise.writeControl, Noise.afterControl, Noise.trigger, bit, fieldNat_highNibble, fieldNat_low]
  rfl

theorem State.toneRegs (s : State) : s.ToneRegs where
  nr21 := s.mapsAudioAt 0x16 .nr21 rfl fun _ => rfl
  nr22 := s.mapsAudioAt 0x17 .nr22 rfl fun v =>
    congrArg (fun q => audioWrite (fun _ => { s.audio with ch2 := q }) s) (Square.writeEnv_eq v s.audio.ch2)
  nr23 := s.mapsAudioAt 0x18 .nr23 BitVec.or_allOnes fun _ => rfl
  nr24 := s.mapsAudioAt 0x19 .nr24 rfl fun v =>
    congrArg (fun q => audioWrite (fun _ => { s.audio with ch2 := q }) s) (Square.writeControl_eq v s.audio.ch2)

theorem State.waveRegs (s : State) : s.WaveRegs where
  nr30 := s.mapsAudioAt 0x1A .nr30 rfl fun _ => rfl
  nr31 := s.mapsAudioAt 0x1B .nr31 BitVec.or_allOnes fun _ => rfl
  nr32 := s.mapsAudioAt 0x1C .nr32 rfl fun _ => rfl
  nr33 := s.mapsAudioAt 0x1D .nr33 BitVec.or_allOnes fun _ => rfl
  nr34 := s.mapsAudioAt 0x1E .nr34 rfl fun v =>
    congrArg (fun w => audioWrite (fun _ => { s.audio with ch3 := w }) s) (Wave.writeControl_eq v s.audio.ch3)
  table k hk := by
    have hreg : ioRegOf (0x30 + k) = .wave k := by interval_cases k <;> rfl
    have h := s.maps_ioAt (0x30 + k) (.wave k) (by omega) hreg
    rwa [← Nat.add_assoc] at h

theorem State.noiseRegs (s : State) : s.NoiseRegs where
  nr41 := s.mapsAudioAt 0x20 .nr41 BitVec.or_allOnes fun _ => rfl
  nr42 := s.mapsAudioAt 0x21 .nr42 rfl fun v =>
    congrArg (fun n => audioWrite (fun _ => { s.audio with ch4 := n }) s) (Noise.writeEnv_eq v s.audio.ch4)
  nr43 := s.mapsAudioAt 0x22 .nr43 rfl fun _ => rfl
  nr44 := s.mapsAudioAt 0x23 .nr44 rfl fun v =>
    congrArg (fun n => audioWrite (fun _ => { s.audio with ch4 := n }) s) (Noise.writeControl_eq v s.audio.ch4)

/-! ## The master enable -/

theorem readNr52_eq (a : Audio) :
    readNr52 a = BitVec.ofNat 8 (0x70 + 128 * a.on.toNat + 8 * a.ch4.active.toNat + 4 * a.ch3.active.toNat +
      2 * a.ch2.active.toNat + a.ch1.active.toNat) := by
  apply BitVec.eq_of_toNat_eq
  have hbit : ∀ b : Bool, b.toNat ≤ 1 := Bool.toNat_le
  have hon := hbit a.on
  have h1 := hbit a.ch1.active
  have h2 := hbit a.ch2.active
  have h3 := hbit a.ch3.active
  have h4 := hbit a.ch4.active
  simp only [readNr52, toNat_append_eq_add, BitVec.toNat_ofNat, BitVec.toNat_ofBool]
  omega

theorem State.mixerRegs (s : State) : s.MixerRegs where
  nr50 := s.mapsAudioAt 0x24 .nr50 rfl fun _ => rfl
  nr51 := s.mapsAudioAt 0x25 .nr51 rfl fun _ => rfl
  nr52 := (s.maps_ioAt 0x26 .nr52).congr (readNr52_eq _) fun v => by
    simp only [ioWrite, writeNr52, bit, Bool.not_eq_true]
    split
    · rfl
    · split <;> rfl

/-! ## Channel 1 and its sweep -/

theorem Sweep.shift_eq (w : Sweep) : w.shift = w.nr10.toNat % 8 := fieldNat_low _ 3

theorem Sweep.pace_eq (w : Sweep) : w.pace = w.nr10.toNat / 16 % 8 := fieldNat_eq _ 4 3

theorem sweepTrigger_sweep (w : Sweep) (q : Square) :
    (sweepTrigger w q).1 = w.afterTrigger (periodOf q.nrx3 q.nrx4) := by
  simp only [sweepTrigger, Sweep.reload, Sweep.afterTrigger, Sweep.pace_eq, Sweep.shift_eq]

/-- The overflow check of a trigger: a subtracting sweep never passes 2047 (63_audio.md R591, R593). -/
theorem silences_iff {p : Nat} (hp : p < 2048) (w : Sweep) :
    w.silences p ↔ w.shift ≠ 0 ∧ (w.afterTrigger p).overflows = true := by
  have hnext : (w.afterTrigger p).next =
      if w.nr10.getLsbD 3 = true then p - p / 2 ^ (w.nr10.toNat % 8) else p + p / 2 ^ (w.nr10.toNat % 8) := by
    rw [← Nat.shiftRight_eq_div_pow, ← Sweep.shift_eq]
    rfl
  rw [Sweep.overflows, decide_eq_true_eq, hnext, Sweep.silences, Sweep.shift_eq]
  cases w.nr10.getLsbD 3 with
  | false => simp
  | true =>
    have hsub : ¬2047 < p - p / 2 ^ (w.nr10.toNat % 8) :=
      Nat.not_lt.2 (Nat.le_trans (Nat.sub_le _ _) (Nat.le_of_lt_succ hp))
    simp [hsub]

theorem sweepTrigger_channel (w : Sweep) (q : Square) :
    (w.silences (periodOf q.nrx3 q.nrx4) → (sweepTrigger w q).2 = { q with active := false }) ∧
      (¬w.silences (periodOf q.nrx3 q.nrx4) → (sweepTrigger w q).2 = q) := by
  have hcheck : (sweepTrigger w q).2 = { q with active := q.active &&
      !(decide (w.shift ≠ 0) && (w.afterTrigger (periodOf q.nrx3 q.nrx4)).overflows) } := by
    rw [← sweepTrigger_sweep]
    rfl
  rw [silences_iff (periodOf_lt _ _), hcheck]
  constructor
  · rintro ⟨hshift, hover⟩
    simp [hshift, hover]
  · intro hkeep
    have hoff : (decide (w.shift ≠ 0) && (w.afterTrigger (periodOf q.nrx3 q.nrx4)).overflows) = false :=
      Bool.eq_false_iff.2 fun h => by
        obtain ⟨hshift, hover⟩ := Bool.and_eq_true_iff.1 h
        exact hkeep ⟨of_decide_eq_true hshift, hover⟩
    rw [hoff, Bool.not_false, Bool.and_true]

theorem Square.afterControl_period (v : Byte) (q : Square) :
    periodOf (q.afterControl v).nrx3 (q.afterControl v).nrx4 = q.nrx3.toNat + 256 * (v.toNat % 8) := by
  unfold Square.afterControl
  split <;> rfl

theorem writeNr14_of_no_trigger {v : Byte} (h7 : v.getLsbD 7 = false) (a : Audio) :
    writeNr14 v a = { a with ch1 := a.ch1.afterControl v } := by
  rw [writeNr14, bit, h7, if_neg Bool.false_ne_true, Square.writeControl_eq]

/-- A trigger also starts the sweep, with the period just written (63_audio.md R586, R591). -/
theorem writeNr14_of_trigger {v : Byte} (h7 : v.getLsbD 7 = true) (a : Audio) :
    writeNr14 v a =
      { a with
        sweep := a.sweep.afterTrigger (a.ch1.nrx3.toNat + 256 * (v.toNat % 8))
        ch1 := (sweepTrigger a.sweep (a.ch1.afterControl v)).2 } := by
  rw [writeNr14, bit, h7, if_pos rfl, Square.writeControl_eq, ← Square.afterControl_period, ← sweepTrigger_sweep]

theorem State.sweepRegs (s : State) : s.SweepRegs where
  nr10 := s.mapsAudioAt 0x10 .nr10 rfl fun _ => rfl
  nr11 := s.mapsAudioAt 0x11 .nr11 rfl fun _ => rfl
  nr12 := s.mapsAudioAt 0x12 .nr12 rfl fun v =>
    congrArg (fun q => audioWrite (fun _ => { s.audio with ch1 := q }) s) (Square.writeEnv_eq v s.audio.ch1)
  nr13 := s.mapsAudioAt 0x13 .nr13 BitVec.or_allOnes fun _ => rfl
  nr14_read := (s.maps_ioAt 0x14 .nr14).1
  nr14_write v hon := by
    have hwrite : busWrite s 0xFF14 v = { s with audio := writeNr14 v s.audio } :=
      ((s.maps_ioAt 0x14 .nr14).2 v).trans ((audioWrite_eq _ s).trans (if_pos hon))
    obtain ⟨hsilenced, hkept⟩ := sweepTrigger_channel s.audio.sweep (s.audio.ch1.afterControl v)
    rw [Square.afterControl_period] at hsilenced hkept
    refine ⟨fun h7 => ?_, fun h7 hs => ?_, fun h7 hs => ?_⟩
    · rw [hwrite, writeNr14_of_no_trigger h7]
    · rw [hwrite, writeNr14_of_trigger h7, hsilenced hs]
    · rw [hwrite, writeNr14_of_trigger h7, hkept hs]

/-! ## The whole map -/

/-- The last address is IE's (20_memory.md R101). -/
theorem regionOf_last : regionOf 0xFFFF = .ie := by
  simp [regionOf]

/-- Settles O41: the regions' clauses by range, then the I/O registers unit by unit. -/
theorem readDecode : Obligations.ReadDecode := fun s _ =>
  ⟨⟨busRead_overlay, busRead_rom, busWrite_rom⟩,
    fun h h2 => State.maps_vram (regionOf_vram h h2),
    fun h h2 => State.maps_cartRam (regionOf_cartRam h h2),
    fun h h2 => State.maps_wram (regionOf_wram h h2),
    fun h h2 => State.maps_oam (regionOf_oamRange h h2),
    fun h h2 => State.maps_unmapped (regionOf_unmapped h h2),
    fun h h2 => State.maps_hram (regionOf_hram h h2),
    fun h => State.maps_ie (h ▸ regionOf_last),
    fun h => State.maps_io (regionOf_unusedIo h),
    s.glueRegs, s.videoRegs, s.sweepRegs, s.toneRegs, s.waveRegs, s.noiseRegs, s.mixerRegs⟩

end Sys2Proof.Machine
end

section
/-! PROOF. Encoding and decoding (spec/30_encoding.md): the round trip in both directions and the spec's examples. -/

namespace Sys2Proof

/-! ## Decoding what was encoded -/

/-- Settles O2: the round trip of each constructor (Laws/PerInstr.lean), in the order of Instr. -/
theorem decodeEncode : Obligations.DecodeEncode :=
  open Laws.RoundTrip in
  Instr.rec
    ldBcN16 ldBN8 ldIndN16Sp ldCN8 ldDeN16 ldDN8 jrE8 ldEN8 jrNzE8 ldHlN16 ldHN8 jrZE8 ldLN8 jrNcE8 ldSpN16 ldIndHlN8
    jrCE8 ldAN8 jpNzN16 jpN16 callNzN16 addAN8 jpZN16 callZN16 callN16 adcAN8 jpNcN16 undefined callNcN16 subN8 jpCN16
    callCN16 sbcAN8 ldhIndN8A andN8 addSpE8 ldIndN16A xorN8 ldhAIndN8 orN8 ldHlSpE8 ldAIndN16 cpN8 nop ldIndBcA incBc
    incB decB rlca addHlBc ldAIndBc decBc incC decC rrca stop ldIndDeA incDe incD decD rla addHlDe ldAIndDe decDe incE
    decE rra ldIndHliA incHl incH decH daa addHlHl ldAIndHli decHl incL decL cpl ldIndHldA incSp incIndHl decIndHl scf
    addHlSp ldAIndHld decSp incA decA ccf ldBB ldBC ldBD ldBE ldBH ldBL ldBIndHl ldBA ldCB ldCC ldCD ldCE ldCH ldCL
    ldCIndHl ldCA ldDB ldDC ldDD ldDE ldDH ldDL ldDIndHl ldDA ldEB ldEC ldED ldEE ldEH ldEL ldEIndHl ldEA ldHB ldHC
    ldHD ldHE ldHH ldHL ldHIndHl ldHA ldLB ldLC ldLD ldLE ldLH ldLL ldLIndHl ldLA ldIndHlB ldIndHlC ldIndHlD ldIndHlE
    ldIndHlH ldIndHlL halt ldIndHlA ldAB ldAC ldAD ldAE ldAH ldAL ldAIndHl ldAA addAB addAC addAD addAE addAH addAL
    addAIndHl addAA adcAB adcAC adcAD adcAE adcAH adcAL adcAIndHl adcAA subB subC subD subE subH subL subIndHl subA
    sbcAB sbcAC sbcAD sbcAE sbcAH sbcAL sbcAIndHl sbcAA andB andC andD andE andH andL andIndHl andA xorB xorC xorD
    xorE xorH xorL xorIndHl xorA orB orC orD orE orH orL orIndHl orA cpB cpC cpD cpE cpH cpL cpIndHl cpA retNz popBc
    pushBc rst00 retZ ret prefixCb rst08 retNc popDe pushDe rst10 retC reti rst18 popHl ldhIndCA pushHl rst20 jpHl
    rst28 popAf ldhAIndC di pushAf rst30 ldSpHl ei rst38 rlcB rlcC rlcD rlcE rlcH rlcL rlcIndHl rlcA rrcB rrcC rrcD
    rrcE rrcH rrcL rrcIndHl rrcA rlB rlC rlD rlE rlH rlL rlIndHl rlA rrB rrC rrD rrE rrH rrL rrIndHl rrA slaB slaC
    slaD slaE slaH slaL slaIndHl slaA sraB sraC sraD sraE sraH sraL sraIndHl sraA swapB swapC swapD swapE swapH swapL
    swapIndHl swapA srlB srlC srlD srlE srlH srlL srlIndHl srlA bit0B bit0C bit0D bit0E bit0H bit0L bit0IndHl bit0A
    bit1B bit1C bit1D bit1E bit1H bit1L bit1IndHl bit1A bit2B bit2C bit2D bit2E bit2H bit2L bit2IndHl bit2A bit3B
    bit3C bit3D bit3E bit3H bit3L bit3IndHl bit3A bit4B bit4C bit4D bit4E bit4H bit4L bit4IndHl bit4A bit5B bit5C
    bit5D bit5E bit5H bit5L bit5IndHl bit5A bit6B bit6C bit6D bit6E bit6H bit6L bit6IndHl bit6A bit7B bit7C bit7D
    bit7E bit7H bit7L bit7IndHl bit7A res0B res0C res0D res0E res0H res0L res0IndHl res0A res1B res1C res1D res1E
    res1H res1L res1IndHl res1A res2B res2C res2D res2E res2H res2L res2IndHl res2A res3B res3C res3D res3E res3H
    res3L res3IndHl res3A res4B res4C res4D res4E res4H res4L res4IndHl res4A res5B res5C res5D res5E res5H res5L
    res5IndHl res5A res6B res6C res6D res6E res6H res6L res6IndHl res6A res7B res7C res7D res7E res7H res7L res7IndHl
    res7A set0B set0C set0D set0E set0H set0L set0IndHl set0A set1B set1C set1D set1E set1H set1L set1IndHl set1A
    set2B set2C set2D set2E set2H set2L set2IndHl set2A set3B set3C set3D set3E set3H set3L set3IndHl set3A set4B
    set4C set4D set4E set4H set4L set4IndHl set4A set5B set5C set5D set5E set5H set5L set5IndHl set5A set6B set6C
    set6D set6E set6H set6L set6IndHl set6A set7B set7C set7D set7E set7H set7L set7IndHl set7A

/-! ## The rows of the opcode map by their fields -/

/-- The byte with the fields `x`, `y` and `z` (30_encoding.md R172). -/
def opcode (x y z : Nat) : Byte := BitVec.ofNat 8 (64 * x + 8 * y + z)

theorem opcode_fields (o : Byte) : opcode (fieldX o) (fieldY o) (fieldZ o) = o := by
  apply BitVec.eq_of_toNat_eq
  rw [opcode, BitVec.toNat_ofNat, fieldX, fieldY, fieldZ]
  omega

theorem exists_opcode (o : Byte) : ∃ x < 4, ∃ y < 8, ∃ z < 8, o = opcode x y z :=
  ⟨fieldX o, Nat.div_lt_of_lt_mul o.isLt, fieldY o, Nat.mod_lt _ (by decide), fieldZ o, Nat.mod_lt _ (by decide),
    (opcode_fields o).symm⟩

/-! ## Encoding what was decoded -/

/-- The bytes R171 counts for the first byte `o`, an n16 operand's as `encode` lays out the word of them. -/
def instrBytes (o b1 b2 : Byte) : List Byte :=
  match instrLen o with
  | 1 => [o]
  | 2 => [o, b1]
  | _ => [o, loByte (word b2 b1), hiByte (word b2 b1)]

theorem instrLen_cases (o : Byte) : instrLen o = 1 ∨ instrLen o = 2 ∨ instrLen o = 3 := by
  unfold instrLen operandBytes
  split_ifs <;> decide

theorem instrBytes_eq_take (o b1 b2 : Byte) : instrBytes o b1 b2 = [o, b1, b2].take (instrLen o) := by
  unfold instrBytes
  obtain h | h | h := instrLen_cases o
  · rw [h]; rfl
  · rw [h]; rfl
  · rw [h, loByte_word, hiByte_word]; rfl

/-- Every row of the CB table encodes back to its own bytes (30_encoding.md R180). -/
theorem encode_decodeCb : ∀ b : Byte, (decodeCb b).wellFormed = true ∧ encode (decodeCb b) = [0xCB, b] := by
  decide

/-- Every row of the primary map, 0xCB apart, encodes back to its own bytes (30_encoding.md R179, R181). -/
theorem encode_decodeOp {o : Byte} (hcb : o ≠ 0xCB) (b1 b2 : Byte) :
    (decodeOp o b1 b2).wellFormed = true ∧ encode (decodeOp o b1 b2) = instrBytes o b1 b2 := by
  obtain ⟨x, hx, y, hy, z, hz, rfl⟩ := exists_opcode o
  interval_cases x <;> interval_cases y <;> interval_cases z
  any_goals exact ⟨rfl, rfl⟩
  -- The row left is 0xCB: what it encodes to depends on the second byte.
  exact absurd rfl hcb

/-- Settles O3: the 256 rows of the primary map by their fields, and for 0xCB the rows of the CB table. -/
theorem encodeDecode : Obligations.EncodeDecode := by
  intro o b1 b2
  rw [← instrBytes_eq_take]
  by_cases hcb : o = 0xCB
  · subst hcb
    exact encode_decodeCb b1
  · exact encode_decodeOp hcb b1 b2

end Sys2Proof

namespace Sys2Proof.Machine

/-- `JR -2` is a jump to itself: PC stands two bytes past it when it executes (30_encoding.md R184). -/
theorem jr_neg_two_pc (s : State) : (jr 0xFE s).cpu.pc = s.cpu.pc - 2 := by
  have hdisp : sext16 0xFE = -2 := by decide
  have hpc : (jr 0xFE s).cpu.pc = s.cpu.pc + sext16 0xFE := rfl
  rw [hpc, hdisp, BitVec.sub_eq_add_neg]

/-- Settles O1: the decoder computes each example. -/
theorem decodeExamples : Obligations.DecodeExamples :=
  ⟨rfl, ⟨rfl, rfl, rfl⟩, rfl, rfl, rfl, fun s => ⟨jr 0xFE s, rfl, jr_neg_two_pc s⟩, rfl, rfl, fun _ => rfl, rfl, rfl, rfl,
    rfl⟩

end Sys2Proof.Machine
end

section
/-! PROOF. The M-cycles of every instruction (spec/30_encoding.md R179, R180): one lemma per family of the decoder from
what the family's meaning ticks (Laws/Timing.lean), then the decoder's quarters. -/

namespace Sys2Proof

/-- The decoder answers the lone PREFIX_CB or what `decodeOp` makes of some bytes. -/
theorem eq_decodeOp_of_decode {l rest : List Byte} {i : Instr} (h : decode l = .ok (i, rest)) :
    i = .prefixCb ∨ ∃ o b1 b2, i = decodeOp o b1 b2 := by
  unfold decode at h
  split at h
  · cases h
  · split_ifs at h
    · cases h; exact .inl rfl
    · cases h; exact .inr ⟨_, _, _, rfl⟩
  all_goals
    split at h <;> cases h <;> exact .inr ⟨_, _, _, rfl⟩

/-! ## The table -/

/-- The M-cycles the opcode table gives `i`, with `f` deciding a conditional transfer. -/
def Instr.tableCycles (i : Instr) (f : Byte) : Nat := mcycles ((encode i).getD 0 0) ((encode i).getD 1 0) f

/-- The M-cycles a primary row takes more when its condition holds, none for an unconditional row. -/
def takenCycles (o : Byte) : Nat :=
  if jumpIfOpcodes.contains o then 1 else if stackIfOpcodes.contains o then 3 else 0

theorem mcycles_primary (o b1 f : Byte) (hcb : o ≠ 0xCB := by decide) :
    mcycles o b1 f = primaryCycles.getD o.toNat 0 + if condHolds (condOfOpcode o) f then takenCycles o else 0 := by
  rw [mcycles, if_neg hcb]
  cases condHolds (condOfOpcode o) f
  · simp
  · simp only [Bool.and_true, if_true, takenCycles]
    split_ifs <;> rfl

end Sys2Proof

namespace Sys2Proof.Machine

/-! ## The CB instructions' transfers -/

theorem readCycles_r8OfCode {z : Nat} (h : z < 8) : readCycles (r8OfCode z) = if z = 6 then 1 else 0 := by
  interval_cases z <;> rfl

theorem executeCb_tickCount (b : Byte) (s : State) :
    (executeCb b s).tickCount = s.tickCount +
      if fieldX b = 1 then readCycles (r8OfCode (fieldZ b)) else 2 * readCycles (r8OfCode (fieldZ b)) := by
  unfold executeCb
  rcases fieldX b with _ | _ | _ | n <;> simp [Nat.two_mul]

/-! ## The families -/

/-- `i` completes from every state, and its fetches and transfers take the M-cycles of the table. -/
def TakesMCycles (i : Instr) : Prop :=
  ∀ s : State, ∃ t, exec i s = .next t ∧ t.tickCount + (encode i).length = s.tickCount + i.tableCycles s.cpu.f

namespace TakesMCycles

/-- `n` M-cycles after the fetches. -/
theorem of {i : Instr} {g : State → State} {n : Nat} (hexec : ∀ s, exec i s = .next (g s))
    (hticks : ∀ s, (g s).tickCount = s.tickCount + n) (htable : ∀ f, i.tableCycles f = n + (encode i).length) :
    TakesMCycles i := fun s =>
  ⟨g s, hexec s, by rw [hticks, htable, Nat.add_assoc]⟩

/-- A conditional transfer: `n` M-cycles after the fetches, `k` more when taken (30_encoding.md R175). -/
theorem of_cond {i : Instr} {g : State → State} {cc : Cond} {n k : Nat} (hexec : ∀ s, exec i s = .next (g s))
    (hticks : ∀ s, (g s).tickCount = s.tickCount + ((if condHolds cc s.cpu.f then k else 0) + n))
    (htable : ∀ f, i.tableCycles f = n + (encode i).length + if condHolds cc f then k else 0) :
    TakesMCycles i := fun s =>
  ⟨g s, hexec s, by rw [hticks, htable]; omega⟩

/-! Conditional transfers: the four conditions' opcodes. -/

theorem jrCond (cc : Cond) (e : Byte) : TakesMCycles (.jrCond cc e) :=
  of_cond (n := 0) (exec_jrCond · cc e) (jrIf_tickCount · cc e) fun f =>
    match cc with
    | .nz => mcycles_primary 0x20 e f
    | .z => mcycles_primary 0x28 e f
    | .nc => mcycles_primary 0x30 e f
    | .c => mcycles_primary 0x38 e f

theorem jpCond (cc : Cond) (n : Word) : TakesMCycles (.jpCond cc n) :=
  of_cond (n := 0) (exec_jpCond · cc n) (jpIf_tickCount · cc n) fun f =>
    match cc with
    | .nz => mcycles_primary 0xC2 (loByte n) f
    | .z => mcycles_primary 0xCA (loByte n) f
    | .nc => mcycles_primary 0xD2 (loByte n) f
    | .c => mcycles_primary 0xDA (loByte n) f

theorem callCond (cc : Cond) (n : Word) : TakesMCycles (.callCond cc n) :=
  of_cond (n := 0) (exec_callCond · cc n) (callIf_tickCount · cc n) fun f =>
    match cc with
    | .nz => mcycles_primary 0xC4 (loByte n) f
    | .z => mcycles_primary 0xCC (loByte n) f
    | .nc => mcycles_primary 0xD4 (loByte n) f
    | .c => mcycles_primary 0xDC (loByte n) f

theorem retCond (cc : Cond) : TakesMCycles (.retCond cc) :=
  of_cond (n := 1) (exec_retCond · cc) (retIf_tickCount · cc) fun f =>
    match cc with
    | .nz => mcycles_primary 0xC0 0 f
    | .z => mcycles_primary 0xC8 0 f
    | .nc => mcycles_primary 0xD0 0 f
    | .c => mcycles_primary 0xD8 0 f

/-! Unconditional families: the table row of each operand. -/

theorem ldRegReg (dst r : Reg8) : TakesMCycles (.ldRegReg dst r) :=
  of (exec_ldRegReg · dst r) (ld_tickCount · (.reg dst) (.reg r)) fun _ => by cases dst <;> cases r <;> rfl

theorem ldRegInd (dst : Reg8) : TakesMCycles (.ldRegInd dst) :=
  of (exec_ldRegInd · dst) (ld_tickCount · (.reg dst) .indHl) fun _ => by cases dst <;> rfl

theorem ldIndReg (r : Reg8) : TakesMCycles (.ldIndReg r) :=
  of (exec_ldIndReg · r) (ld_tickCount · .indHl (.reg r)) fun _ => by cases r <;> rfl

theorem ldRegImm (r : Reg8) (n : Byte) : TakesMCycles (.ldRegImm r n) :=
  of (exec_ldRegImm · r n) (writeOpnd_tickCount · (.reg r) n) fun _ => by cases r <;> rfl

theorem ldAFrom (p : Rpm) : TakesMCycles (.ldAFrom p) :=
  of (exec_ldAFrom · p) (ldAPtr_tickCount · p) fun _ => by cases p <;> rfl

theorem ldToA (p : Rpm) : TakesMCycles (.ldToA p) :=
  of (exec_ldToA · p) (ldPtrA_tickCount · p) fun _ => by cases p <;> rfl

theorem ldPairImm (p : Rp) (n : Word) : TakesMCycles (.ldPairImm p n) :=
  of (exec_ldPairImm · p n) (fun _ => rfl) fun _ => by cases p <;> rfl

theorem incPair (p : Rp) : TakesMCycles (.incPair p) :=
  of (exec_incPair · p) (incRp_tickCount · p) fun _ => by cases p <;> rfl

theorem decPair (p : Rp) : TakesMCycles (.decPair p) :=
  of (exec_decPair · p) (decRp_tickCount · p) fun _ => by cases p <;> rfl

theorem addHl (p : Rp) : TakesMCycles (.addHl p) :=
  of (exec_addHl · p) (addHl_tickCount · p) fun _ => by cases p <;> rfl

theorem push (p : Rp2) : TakesMCycles (.push p) :=
  of (exec_push · p) (push_tickCount · p) fun _ => by cases p <;> rfl

theorem pop (p : Rp2) : TakesMCycles (.pop p) :=
  of (exec_pop · p) (pop_tickCount · p) fun _ => by cases p <;> rfl

theorem inc8 (o : Opnd8) : TakesMCycles (.inc8 o) :=
  of (exec_inc8 · o) (incOpnd_tickCount · o) fun _ => by
    rcases o with r | _
    · cases r <;> rfl
    · rfl

theorem dec8 (o : Opnd8) : TakesMCycles (.dec8 o) :=
  of (exec_dec8 · o) (decOpnd_tickCount · o) fun _ => by
    rcases o with r | _
    · cases r <;> rfl
    · rfl

theorem alu (op : AluOp) (o : Opnd8) : TakesMCycles (.alu op o) :=
  of (exec_alu · op o) (aluOpnd_tickCount · op o) fun _ => by
    rcases o with r | _
    · cases op <;> cases r <;> rfl
    · cases op <;> rfl

theorem aluImm (op : AluOp) (n : Byte) : TakesMCycles (.aluImm op n) :=
  of (exec_aluImm · op n) (fun _ => rfl) fun _ => by cases op <;> rfl

theorem rst (y : Fin 8) : TakesMCycles (.rst y) :=
  of (exec_rst · y) (rst_tickCount · y) fun _ => by fin_cases y <;> rfl

theorem undefined {o : Byte} (h : (Instr.undefined o).wellFormed = true) : TakesMCycles (.undefined o) :=
  of (fun _ => rfl) (fun _ => rfl) fun f => by
    have ho : o ∈ undefinedOpcodes := List.contains_iff_mem.1 h
    unfold undefinedOpcodes at ho
    fin_cases ho <;> rfl

/-! The decoder's quarters, branch by branch; a row of its own beside the families names its instruction. -/

theorem ldBlockOf (o1 o2 : Opnd8) : TakesMCycles (ldBlockOf o1 o2) :=
  match o1, o2 with
  | .reg dst, .reg r => ldRegReg dst r
  | .reg dst, .indHl => ldRegInd dst
  | .indHl, .reg r => ldIndReg r
  | .indHl, .indHl => of (i := .halt) (fun _ => rfl) (fun _ => rfl) fun _ => rfl

theorem ldImmOf (o : Opnd8) (n : Byte) : TakesMCycles (ldImmOf o n) :=
  match o with
  | .reg r => ldRegImm r n
  | .indHl => of (i := .ldIndHlN8 n) (fun _ => rfl) (writeOpnd_tickCount · .indHl n) fun _ => rfl

theorem decodeCb (b : Byte) : TakesMCycles (decodeCb b) := by
  have henc : encode (Sys2Proof.decodeCb b) = [0xCB, b] := (encode_decodeCb b).2
  refine of (exec_decodeCb · b) (executeCb_tickCount b) fun f => ?_
  have hz : fieldZ b < 8 := Nat.mod_lt _ (by decide)
  rw [readCycles_r8OfCode hz, Instr.tableCycles, henc]
  show (if fieldZ b = 6 then if fieldX b = 1 then 3 else 4 else 2) = _
  split_ifs <;> rfl

theorem decodeX0 (o b1 b2 : Byte) : TakesMCycles (decodeX0 o b1 b2) := by
  unfold Sys2Proof.decodeX0
  split
  · split
    · exact of (i := .nop) (fun _ => rfl) (fun _ => rfl) fun _ => rfl
    · exact of (i := .ldIndN16Sp _) (fun _ => rfl) (ldIndSp_tickCount · _) fun _ => rfl
    · exact of (i := .stop) (fun _ => rfl) (fun _ => rfl) fun _ => rfl
    · exact of (i := .jrE8 b1) (fun _ => rfl) (jr_tickCount · _) fun _ => rfl
    · exact jrCond _ b1
  · exact ldPairImm _ _
  · exact addHl _
  · exact ldToA _
  · exact ldAFrom _
  · exact incPair _
  · exact decPair _
  · exact inc8 _
  · exact dec8 _
  · exact ldImmOf _ b1
  · split <;> exact of (fun _ => rfl) (fun _ => rfl) fun _ => rfl

theorem decodeX3 (o b1 b2 : Byte) : (decodeX3 o b1 b2).wellFormed = true → TakesMCycles (decodeX3 o b1 b2) := by
  unfold Sys2Proof.decodeX3
  split <;> intro hwf
  · exact of (i := .ldhIndN8A b1) (fun _ => rfl) (ldAddrA_tickCount · _) fun _ => rfl
  · exact of (i := .addSpE8 b1) (fun _ => rfl) (addSp_tickCount · _) fun _ => rfl
  · exact of (i := .ldhAIndN8 b1) (fun _ => rfl) (ldAAddr_tickCount · _) fun _ => rfl
  · exact of (i := .ldHlSpE8 b1) (fun _ => rfl) (ldHlSp_tickCount · _) fun _ => rfl
  · exact retCond _
  · exact of (i := .ret) (fun _ => rfl) ret_tickCount fun _ => rfl
  · exact of (i := .reti) (fun _ => rfl) reti_tickCount fun _ => rfl
  · exact of (i := .jpHl) (fun _ => rfl) (fun _ => rfl) fun _ => rfl
  · exact of (i := .ldSpHl) (fun _ => rfl) ldSpHl_tickCount fun _ => rfl
  · exact pop _
  · exact of (i := .ldhIndCA) (fun _ => rfl) (fun s => ldAddrA_tickCount s (highPage s.cpu.c)) fun _ => rfl
  · exact of (i := .ldIndN16A _) (fun _ => rfl) (ldAddrA_tickCount · _) fun _ => rfl
  · exact of (i := .ldhAIndC) (fun _ => rfl) (fun s => ldAAddr_tickCount s (highPage s.cpu.c)) fun _ => rfl
  · exact of (i := .ldAIndN16 _) (fun _ => rfl) (ldAAddr_tickCount · _) fun _ => rfl
  · exact jpCond _ _
  · exact of (i := .jpN16 _) (fun _ => rfl) (jp_tickCount · _) fun _ => rfl
  · exact of (i := .di) (fun _ => rfl) (fun _ => rfl) fun _ => rfl
  · exact of (i := .ei) (fun _ => rfl) (fun _ => rfl) fun _ => rfl
  · exact callCond _ _
  · exact callCond _ _
  · exact callCond _ _
  · exact callCond _ _
  · exact push _
  · exact of (i := .callN16 _) (fun _ => rfl) (call_tickCount · _) fun _ => rfl
  · exact push _
  · exact push _
  · exact push _
  · exact aluImm _ b1
  · exact rst _
  · exact undefined hwf

theorem decodeOp (o b1 b2 : Byte) : (decodeOp o b1 b2).wellFormed = true → TakesMCycles (decodeOp o b1 b2) := by
  unfold Sys2Proof.decodeOp
  split
  · exact fun _ => decodeX0 o b1 b2
  · exact fun _ => ldBlockOf _ _
  · exact fun _ => alu _ _
  · split
    · exact fun _ => decodeCb b1
    · exact decodeX3 o b1 b2

end TakesMCycles

/-- Settles O40: every instruction but the lone PREFIX_CB is the decoder's, by the round trip of its encoding. -/
theorem mCycles : Obligations.MCycles := by
  intro i s hwf hne
  have hdecode : decode (encode i ++ []) = .ok (i, []) := decodeEncode i hwf [] fun hcb => absurd hcb hne
  obtain hcb | ⟨o, b1, b2, rfl⟩ := eq_decodeOp_of_decode hdecode
  · exact absurd hcb hne
  · exact TakesMCycles.decodeOp o b1 b2 hwf s

end Sys2Proof.Machine
end

section
/-! PROOF. The loads, stores and stack transfers (spec/40_loads.md): each shared meaning once, as what it leaves in the
registers and the frame of its M-cycles; then the instructions, which differ in their operands alone. -/

namespace Sys2Proof.Machine

variable {s : State}

/-! ## Register and pair writes -/

theorem Cpu.setReg8_wrote (c : Cpu) (r : Reg8) (v : Byte) : c.Wrote8 r v c.f (c.setReg8 r v) where
  value := by cases r <;> rfl
  others q hq := by cases r <;> cases q <;> first | rfl | exact absurd rfl hq
  flags := by cases r <;> rfl
  sp := by cases r <;> rfl
  control := by cases r <;> exact ⟨rfl, rfl, rfl, rfl, rfl⟩

theorem word_hiByte_loByte (w : Word) : word (hiByte w) (loByte w) = w := by
  apply BitVec.eq_of_toNat_eq
  rw [word_toNat, hiByte_toNat, loByte_toNat]
  omega

@[simp] theorem Cpu.setBc_word (c : Cpu) (hi lo : Byte) : c.setBc (word hi lo) = { c with b := hi, c := lo } := by
  rw [Cpu.setBc, hiByte_word, loByte_word]

@[simp] theorem Cpu.setDe_word (c : Cpu) (hi lo : Byte) : c.setDe (word hi lo) = { c with d := hi, e := lo } := by
  rw [Cpu.setDe, hiByte_word, loByte_word]

@[simp] theorem Cpu.setHl_word (c : Cpu) (hi lo : Byte) : c.setHl (word hi lo) = { c with h := hi, l := lo } := by
  rw [Cpu.setHl, hiByte_word, loByte_word]

@[simp] theorem Cpu.setAf_word (c : Cpu) (hi lo : Byte) :
    c.setAf (word hi lo) = { c with a := hi, f := lo &&& 0xF0 } := by
  rw [Cpu.setAf, hiByte_word, loByte_word]

theorem Cpu.setRp_wrote (c : Cpu) (p : Rp) (v : Word) : c.WroteRp p v c.f (c.setRp p v) where
  value := by
    cases p
    case sp => rfl
    all_goals exact word_hiByte_loByte v
  others q hq := by cases p <;> cases q <;> first | rfl | exact absurd rfl hq
  a := by cases p <;> rfl
  flags := by cases p <;> rfl
  control := by cases p <;> exact ⟨rfl, rfl, rfl, rfl, rfl⟩

/-- A mask of the high nibble keeps a byte whose low nibble is zero. -/
theorem and_highNibble_of_low {f : Byte} (h : f &&& 0x0F = 0) : f &&& 0xF0 = f := by
  calc f &&& 0xF0 = (f &&& 0x0F) ||| (f &&& 0xF0) := by rw [h]; exact BitVec.zero_or.symm
    _ = f &&& (0x0F ||| 0xF0) := BitVec.and_or_distrib_left.symm
    _ = f := BitVec.and_allOnes

/-- Writing a pair with its own value changes nothing, AF's mask included. -/
theorem Cpu.setRp2_rp2 {c : Cpu} (h : c.flagsLow) (p : Rp2) : c.setRp2 p (c.rp2 p) = c := by
  cases p
  case bc => exact c.setBc_word c.b c.c
  case de => exact c.setDe_word c.d c.e
  case hl => exact c.setHl_word c.h c.l
  case af => rw [Cpu.setRp2, Cpu.rp2, Cpu.af, Cpu.setAf_word, and_highNibble_of_low h]

/-- The LDH forms' address as a sum (30_encoding.md R178). -/
theorem ofNat_highPage (n : Byte) : BitVec.ofNat 16 (0xFF00 + n.toNat) = highPage n := by
  have hn : n.toNat < 256 := n.isLt
  have hor : 0xFF00 + n.toNat = 0xFF00 ||| n.toNat := Nat.two_pow_add_eq_or_of_lt (i := 8) hn 0xFF
  apply BitVec.eq_of_toNat_eq
  rw [highPage, zext16, BitVec.toNat_or, BitVec.toNat_setWidth, BitVec.toNat_ofNat, Nat.mod_eq_of_lt (by omega),
    Nat.mod_eq_of_lt (by omega)]
  exact hor

/-! ## What each shared operation does to the registers, and its frame -/

theorem mapCpu_elapsed (f : Cpu → Cpu) : Elapsed 0 s (mapCpu f s) := elapsed_of 0 s f

theorem memWrite_stored (a : Word) (v : Byte) : Stored 0 s (memWrite s a v) a v := stored_of 0 s id a v

theorem ldAPtr_reads (p : Rpm) :
    (ldAPtr p s).cpu = { s.cpu with a := busRead (transferState s) (s.cpu.ptr p) }.bumpPtr p ∧
      Elapsed 1 s (ldAPtr p s) :=
  ⟨rfl, elapsed_of 1 s fun c => (c.setReg8 .a (busRead (transferState s) (s.cpu.ptr p))).bumpPtr p⟩

theorem ldAAddr_reads (a : Word) :
    (ldAAddr a s).cpu = { s.cpu with a := busRead (transferState s) a } ∧ Elapsed 1 s (ldAAddr a s) :=
  ⟨rfl, elapsed_of 1 s _⟩

theorem ldPtrA_stores (p : Rpm) :
    (ldPtrA p s).cpu = s.cpu.bumpPtr p ∧ Stored 0 s (ldPtrA p s) (s.cpu.ptr p) s.cpu.a :=
  ⟨congrArg (Cpu.bumpPtr p) (memWrite_cpu ..), stored_of 0 s _ _ _⟩

theorem ldAddrA_stores (a : Word) : (ldAddrA a s).cpu = s.cpu ∧ Stored 0 s (ldAddrA a s) a s.cpu.a :=
  ⟨memWrite_cpu .., memWrite_stored a _⟩

theorem ldIndSp_stores (n : Word) :
    (ldIndSp n s).cpu = s.cpu ∧ StoredTwo 0 s (ldIndSp n s) n (loByte s.cpu.sp) (n + 1) (hiByte s.cpu.sp) :=
  ⟨(memWrite_cpu ..).trans (memWrite_cpu ..), storedTwo_of 0 s id _ _ _ _⟩

theorem push_stores {p : Rp2} {hi lo : Byte} (h : s.cpu.rp2 p = word hi lo) :
    (push p s).cpu = { s.cpu with sp := s.cpu.sp - 2 } ∧
      StoredTwo 1 s (push p s) (s.cpu.sp - 1) hi (s.cpu.sp - 2) lo := by
  rw [push, push16_idle, h, hiByte_word, loByte_word]
  exact ⟨by simp [Cpu.setSp], storedTwo_of 1 s _ _ _ _ _⟩

theorem pop_reads (p : Rp2) :
    let v := word (busRead (transferState (tick s)) (s.cpu.sp + 1)) (busRead (transferState s) s.cpu.sp)
    (pop p s).cpu = (s.cpu.setSp (s.cpu.sp + 2)).setRp2 p v ∧ Elapsed 2 s (pop p s) := by
  intro v
  have hpop : pop p s = mapCpu (fun c => (c.setSp (c.sp + 2)).setRp2 p v) (ticks 2 s) := by rw [pop, pop16_eq]; rfl
  rw [hpop]
  exact ⟨by simp, elapsed_of 2 s _⟩

/-! ## The instructions -/

/-- Settles O6: both forms write the destination register and let no M-cycle pass. -/
theorem ldRegister : Obligations.LdRegister := fun s =>
  ⟨fun dst r => ⟨_, exec_ldRegReg s dst r, s.cpu.setReg8_wrote dst _, mapCpu_elapsed _⟩,
    fun dst n => ⟨_, exec_ldRegImm s dst n, s.cpu.setReg8_wrote dst n, mapCpu_elapsed _⟩⟩

/-- Settles O7: one read M-cycle, then the write of the destination register. -/
theorem ldFromHl : Obligations.LdFromHl := fun s dst =>
  ⟨_, exec_ldRegInd s dst, s.cpu.setReg8_wrote dst _, elapsed_of 1 s _⟩

/-- Settles O8: four pointer operands and three addresses. -/
theorem loadAFromMemory : Obligations.LoadAFromMemory := by
  intro s
  simp only [ofNat_highPage]
  exact ⟨⟨_, rfl, ldAPtr_reads .bc⟩, ⟨_, rfl, ldAPtr_reads .de⟩, ⟨_, rfl, ldAPtr_reads .hli⟩,
    ⟨_, rfl, ldAPtr_reads .hld⟩, fun n => ⟨_, rfl, ldAAddr_reads n⟩, fun _ => ⟨_, rfl, ldAAddr_reads _⟩,
    ⟨_, rfl, ldAAddr_reads _⟩⟩

/-- Settles O9: both forms are one write at HL. -/
theorem storeAtHl : Obligations.StoreAtHl := fun s =>
  ⟨fun r => ⟨_, exec_ldIndReg s r, memWrite_cpu .., memWrite_stored _ _⟩,
    fun _ => ⟨_, rfl, memWrite_cpu .., memWrite_stored _ _⟩⟩

/-- Settles O10: four pointer operands and three addresses. -/
theorem storeA : Obligations.StoreA := by
  intro s
  simp only [ofNat_highPage]
  exact ⟨⟨_, rfl, ldPtrA_stores .bc⟩, ⟨_, rfl, ldPtrA_stores .de⟩, ⟨_, rfl, ldPtrA_stores .hli⟩,
    ⟨_, rfl, ldPtrA_stores .hld⟩, fun n => ⟨_, rfl, ldAddrA_stores n⟩, fun _ => ⟨_, rfl, ldAddrA_stores _⟩,
    ⟨_, rfl, ldAddrA_stores _⟩⟩

/-- Settles O11: a write of the pair, or of SP after one idle M-cycle. -/
theorem loadPair : Obligations.LoadPair := fun s =>
  ⟨fun p n => ⟨_, exec_ldPairImm s p n, s.cpu.setRp_wrote p n, mapCpu_elapsed _⟩,
    ⟨_, rfl, rfl, elapsed_of 1 s _⟩⟩

/-- Settles O12: two writes, low byte first. -/
theorem storeSp : Obligations.StoreSp := fun _ n => ⟨_, rfl, ldIndSp_stores n⟩

/-- Settles O13: one closed form for the four pairs. -/
theorem Loads.push : Obligations.Push := fun s =>
  ⟨⟨_, exec_push s .bc, push_stores rfl⟩, ⟨_, exec_push s .de, push_stores rfl⟩,
    ⟨_, exec_push s .hl, push_stores rfl⟩, ⟨_, exec_push s .af, push_stores rfl⟩⟩

/-- Settles O14: one closed form for the four pairs, whose halves the bytes become; AF's write masks F. -/
theorem popPair : Obligations.PopPair := by
  intro s c lo hi
  have load (p : Rp2) {d : Cpu} (h : (c.setSp (c.sp + 2)).setRp2 p (word hi lo) = d) :
      ∃ t, exec (.pop p) s = .next t ∧ t.cpu = d ∧ Elapsed 2 s t :=
    let ⟨hcpu, htime⟩ := pop_reads p
    ⟨_, exec_pop s p, hcpu.trans h, htime⟩
  exact ⟨load .bc (Cpu.setBc_word ..), load .de (Cpu.setDe_word ..), load .hl (Cpu.setHl_word ..),
    load .af (Cpu.setAf_word ..)⟩

/-! ## A push and the pop after it -/

variable {a : Word}

/-- An HRAM region means an address of high RAM. -/
theorem regionOf_eq_hram {k : Nat} (h : regionOf a = .hram k) :
    0xFF80 ≤ a.toNat ∧ a.toNat ≤ 0xFFFE ∧ k = a.toNat - 0xFF80 := by
  unfold regionOf at h
  simp only at h
  split_ifs at h
  have hk := Region.hram.inj h
  omega

/-- The next address of work or high RAM is another byte: the mirror starts at the lowest offset again
(20_memory.md R108). -/
theorem regionOf_succ_ne (h : ramAddr a) : regionOf (a + 1) ≠ regionOf a := by
  have hsucc : (a + 1).toNat = a.toNat + 1 := by unfold ramAddr at h; bv_omega
  intro heq
  obtain ⟨k, hk⟩ | ⟨k, hk⟩ := ramAddr_region h
  · have hnow := regionOf_eq_wram hk
    have hnext := regionOf_eq_wram (heq.trans hk)
    omega
  · have hnow := regionOf_eq_hram hk
    have hnext := regionOf_eq_hram (heq.trans hk)
    omega

/-- The transfer of a read at a plain address sees what the bus shows before any tick. -/
theorem busRead_transferState (h : plainAddr a) : busRead (transferState s) a = busRead s a :=
  congrArg Prod.fst (memRead_plain s h)

/-- Console RAM is outside OAM. -/
theorem still_of_ramLoc {l : Loc} (h : (regionOf a).ramLoc = some l) : s.still l := by
  cases hr : regionOf a <;> rw [hr] at h <;> cases h <;> exact .inl trivial

/-- Of two bytes stored in console RAM, a read at the second address shows the second. -/
theorem StoredTwo.read_second {n : Nat} {t : State} {a1 a2 : Word} {v1 v2 : Byte} (h : StoredTwo n s t a1 v1 a2 v2)
    (ha : ramAddr a2) : busRead t a2 = v2 := by
  obtain ⟨l, hl⟩ := ramLoc_of_ramAddr (.inl ha)
  rw [busRead_of_ramLoc hl, h.memory l (still_of_ramLoc hl), if_pos (storeLoc_of_ramLoc hl)]

/-- The first is still shown at the first address, if the second went to another byte. -/
theorem StoredTwo.read_first {n : Nat} {t : State} {a1 a2 : Word} {v1 v2 : Byte} (h : StoredTwo n s t a1 v1 a2 v2)
    (ha1 : ramAddr a1) (ha2 : ramAddr a2) (hne : regionOf a1 ≠ regionOf a2) : busRead t a1 = v1 := by
  obtain ⟨l, hl⟩ := ramLoc_of_ramAddr (.inl ha1)
  obtain ⟨m, hm⟩ := ramLoc_of_ramAddr (.inl ha2)
  have hml : some m ≠ some l := fun heq => hne (Region.ramLoc_inj hl (hm.trans heq))
  rw [busRead_of_ramLoc hl, h.memory l (still_of_ramLoc hl), storeLoc_of_ramLoc hm, if_neg hml,
    if_pos (storeLoc_of_ramLoc hl)]

/-- Settles O15: the pop reads back the two bytes the push stored, which are two bytes of RAM time does not change, so
the pair is written with its own value. -/
theorem pushThenPop : Obligations.PushThenPop := by
  intro s p hhi hlo hf
  obtain ⟨hcpu, hstored⟩ := push_stores (word_hiByte_loByte (s.cpu.rp2 p)).symm
  obtain ⟨hpop, -⟩ := pop_reads (s := push p s) p
  have hsp : s.cpu.sp - 2 + 1 = s.cpu.sp - 1 := by bv_omega
  have hsp' : s.cpu.sp - 2 + 2 = s.cpu.sp := by bv_omega
  have hne : regionOf (s.cpu.sp - 1) ≠ regionOf (s.cpu.sp - 2) := by
    rw [← hsp] at hhi ⊢
    exact regionOf_succ_ne hlo
  have readLo : busRead (transferState (push p s)) (s.cpu.sp - 2) = loByte (s.cpu.rp2 p) := by
    rw [busRead_transferState (ramAddr_plain hlo), hstored.read_second hlo]
  have readHi : busRead (transferState (tick (push p s))) (s.cpu.sp - 1) = hiByte (s.cpu.rp2 p) := by
    rw [busRead_transferState (ramAddr_plain hhi), busRead_tick _ (ramAddr_plain hhi),
      hstored.read_first hhi hlo hne]
  refine ⟨_, _, exec_push s p, exec_pop _ p, ?_⟩
  calc (pop p (push p s)).cpu
      = s.cpu.setRp2 p (word (hiByte (s.cpu.rp2 p)) (loByte (s.cpu.rp2 p))) := by
        rw [hpop, hcpu]
        simp only [Cpu.setSp, hsp, hsp', readLo, readHi]
    _ = s.cpu := by rw [word_hiByte_loByte, Cpu.setRp2_rp2 hf]

end Sys2Proof.Machine
end

section
/-! PROOF. 8-bit arithmetic and logic (spec/41_alu8.md): each computation of a result and F once, as numbers and flag
conditions; the operand forms once, for any operation; then the instructions. -/

namespace Sys2Proof.Machine

/-! ## Flags from their packing -/

/-- F packed from four flags reads back as those flags, its low nibble zero (10_state.md R32). -/
theorem flagsAre_packF {z n h c : Bool} {Z N H C : Prop} (hz : z = true ↔ Z) (hn : n = true ↔ N)
    (hh : h = true ↔ H) (hc : c = true ↔ C) : FlagsAre (packF z n h c) Z N H C := by
  have bits : FlagsAre (packF z n h c) (z = true) (n = true) (h = true) (c = true) := by
    cases z <;> cases n <;> cases h <;> cases c <;> constructor <;> decide
  exact ⟨bits.z.trans hz, bits.n.trans hn, bits.h.trans hh, bits.c.trans hc, bits.low⟩

theorem toNat_and_lowNibble (v : Byte) : (v &&& 0x0F).toNat = v.toNat % 16 := Nat.and_two_pow_sub_one_eq_mod _ 4

theorem boolByte_toNat (b : Bool) : (boolByte b).toNat = b.toNat := by cases b <;> rfl

/-! ## Results and flags -/

theorem aluAdd_value (a b : Byte) (k : Bool) :
    (aluAdd a b k).1.toNat = (a.toNat + b.toNat + k.toNat) % 256 := BitVec.toNat_ofNat ..

theorem aluAdd_flags (a b : Byte) (k : Bool) :
    FlagsAre (aluAdd a b k).2 ((aluAdd a b k).1 = 0) False (15 < a.toNat % 16 + b.toNat % 16 + k.toNat)
      (255 < a.toNat + b.toNat + k.toNat) :=
  flagsAre_packF beq_iff_eq (by decide) (by rw [decide_eq_true_iff, toNat_and_lowNibble, toNat_and_lowNibble])
    decide_eq_true_iff

theorem aluSub_value (a b : Byte) (k : Bool) :
    ((aluSub a b k).1.toNat + b.toNat + k.toNat) % 256 = a.toNat := by
  have hk : k.toNat ≤ 1 := Bool.toNat_le k
  have hr : (aluSub a b k).1 = a - b - boolByte k := rfl
  rw [hr, BitVec.toNat_sub, BitVec.toNat_sub, boolByte_toNat]
  omega

theorem aluSub_flags (a b : Byte) (k : Bool) :
    FlagsAre (aluSub a b k).2 ((aluSub a b k).1 = 0) True (a.toNat % 16 < b.toNat % 16 + k.toNat)
      (a.toNat < b.toNat + k.toNat) :=
  flagsAre_packF beq_iff_eq (by decide)
    (by rw [decide_eq_true_iff, toNat_and_lowNibble, toNat_and_lowNibble]) decide_eq_true_iff

/-- The three logic operations differ in H alone, which AND sets. -/
theorem logic_flags {op : AluOp} {H : Prop} (hop : op ∈ [AluOp.and, .xor, .or]) (hH : op = .and ↔ H) (a b : Byte)
    (k : Bool) : FlagsAre (aluResult op a b k).2 ((aluResult op a b k).1 = 0) False H False := by
  simp only [List.mem_cons, List.not_mem_nil, or_false] at hop
  obtain rfl | rfl | rfl := hop <;>
    exact flagsAre_packF beq_iff_eq (by decide) (.trans (by decide) hH) (by decide)

theorem incResult_value (v f : Byte) : (incResult v f).1.toNat = (v.toNat + 1) % 256 := BitVec.toNat_add ..

theorem incResult_flags (v f : Byte) :
    FlagsAre (incResult v f).2 ((incResult v f).1 = 0) False (v.toNat % 16 = 15) (f.getLsbD 4 = true) :=
  flagsAre_packF beq_iff_eq (by decide)
    (by rw [beq_iff_eq, ← BitVec.toNat_inj, toNat_and_lowNibble]; rfl) Iff.rfl

theorem decResult_value (v f : Byte) : ((decResult v f).1.toNat + 1) % 256 = v.toNat := by
  have hr : (decResult v f).1 = v - 1 := rfl
  rw [hr]
  bv_omega

theorem decResult_flags (v f : Byte) :
    FlagsAre (decResult v f).2 ((decResult v f).1 = 0) True (v.toNat % 16 = 0) (f.getLsbD 4 = true) :=
  flagsAre_packF beq_iff_eq (by decide)
    (by rw [beq_iff_eq, ← BitVec.toNat_inj, toNat_and_lowNibble]; rfl) Iff.rfl

theorem toNat_ite_add (p : Bool) (a n : Byte) :
    (if p then a + n else a).toNat = (a.toNat + if p then n.toNat else 0) % 256 := by
  cases p
  · exact (Nat.mod_eq_of_lt a.isLt).symm
  · exact BitVec.toNat_add a n

theorem toNat_ite_sub (p : Bool) (a n : Byte) :
    ((if p then a - n else a).toNat + if p then n.toNat else 0) % 256 = a.toNat := by
  cases p
  · exact Nat.mod_eq_of_lt a.isLt
  · have hsub : a - n + n = a := BitVec.sub_add_cancel a n
    exact (BitVec.toNat_add (a - n) n).symm.trans (congrArg BitVec.toNat hsub)

/-- DAA after an addition (R279). The correction of the high digit does not move the low one, so both tests can be made
on A as it was. -/
theorem daaResult_after_add {a f : Byte} (hn : flagN f = false) :
    (daaResult a f).1.toNat = (a.toNat + (if f.getLsbD 4 = true ∨ 0x99 < a.toNat then 0x60 else 0) +
      (if f.getLsbD 5 = true ∨ 9 < a.toNat % 16 then 6 else 0)) % 256 ∧
    FlagsAre (daaResult a f).2 ((daaResult a f).1 = 0) False False (f.getLsbD 4 = true ∨ 0x99 < a.toNat) := by
  unfold daaResult
  rw [if_neg (Bool.eq_false_iff.1 hn)]
  extract_lets high a1 a2
  have hhigh : high = true ↔ f.getLsbD 4 = true ∨ 0x99 < a.toNat := by
    rw [Bool.or_eq_true, decide_eq_true_iff]; rfl
  have ha1 : a1.toNat = (a.toNat + if high then 0x60 else 0) % 256 := toNat_ite_add high a 0x60
  have hdigit : (a1 &&& 0x0F).toNat = a.toNat % 16 := by
    rw [toNat_and_lowNibble, ha1]
    split <;> omega
  have hlow : (flagH f || decide ((a1 &&& 0x0F).toNat > 0x09)) = true ↔ f.getLsbD 5 = true ∨ 9 < a.toNat % 16 := by
    rw [Bool.or_eq_true, decide_eq_true_iff, hdigit]; rfl
  have ha2 : a2.toNat = (a1.toNat + if flagH f || decide ((a1 &&& 0x0F).toNat > 0x09) then 6 else 0) % 256 :=
    toNat_ite_add _ a1 0x06
  simp only [ha1, hhigh, hlow, Nat.mod_add_mod] at ha2
  exact ⟨ha2, flagsAre_packF beq_iff_eq (by decide) (by decide) hhigh⟩

/-- DAA after a subtraction takes off what the flags say (R279). -/
theorem daaResult_after_sub {a f : Byte} (hn : flagN f = true) :
    ((daaResult a f).1.toNat + (if f.getLsbD 4 = true then 0x60 else 0) + (if f.getLsbD 5 = true then 6 else 0)) % 256 =
      a.toNat ∧
    FlagsAre (daaResult a f).2 ((daaResult a f).1 = 0) True False (f.getLsbD 4 = true) := by
  unfold daaResult
  rw [if_pos hn]
  extract_lets a1 a2
  have ha1 : (a1.toNat + if f.getLsbD 4 then 0x60 else 0) % 256 = a.toNat := toNat_ite_sub (flagC f) a 0x60
  have ha2 : (a2.toNat + if f.getLsbD 5 then 6 else 0) % 256 = a1.toNat := toNat_ite_sub (flagH f) a1 0x06
  refine ⟨?_, flagsAre_packF beq_iff_eq (by decide) (by decide) Iff.rfl⟩
  rw [← ha1, ← ha2, Nat.mod_add_mod, Nat.add_right_comm]

/-! ## The operand forms -/

/-- What an operation does to A and F for every operand byte, its three forms do. -/
theorem aluForms_of {op : AluOp} {P : Byte → Cpu → Cpu → Prop} (h : ∀ v c, P v c (c.aluA op v)) : AluForms op P :=
  fun s =>
    ⟨fun r => ⟨_, exec_alu s op (.reg r), h _ _, mapCpu_elapsed _⟩, ⟨_, exec_alu s op .indHl, h _ _, elapsed_of 1 s _⟩,
      fun n => ⟨_, exec_aluImm s op n, h _ _, mapCpu_elapsed _⟩⟩

/-- Read an operand, write back what `g` makes of it and of F, and set F: the shape INC, DEC and the shifts share. -/
def updateOpnd (g : Byte → Byte → Byte × Byte) (o : Opnd8) (s : State) : State :=
  let r := readOpnd o s
  let q := g r.1 s.cpu.f
  mapCpu (Cpu.setF q.2) (writeOpnd o q.1 r.2)

theorem incOpnd_eq : incOpnd = updateOpnd incResult := rfl

theorem decOpnd_eq : decOpnd = updateOpnd decResult := rfl

@[simp] theorem Cpu.reg8_setF (c : Cpu) (f : Byte) (r : Reg8) : (c.setF f).reg8 r = c.reg8 r := by cases r <;> rfl

/-- A register written, then F. -/
theorem Cpu.setF_setReg8_wrote (c : Cpu) (r : Reg8) (v f : Byte) : c.Wrote8 r v f ((c.setReg8 r v).setF f) :=
  have h := c.setReg8_wrote r v
  { value := (reg8_setF ..).trans h.value
    others := fun q hq => (reg8_setF ..).trans (h.others q hq)
    flags := rfl
    sp := h.sp
    control := ⟨h.control.pc, h.control.ime, h.control.imePending, h.control.halted, h.control.locked⟩ }

/-- What `g` does to every byte, an instruction that updates its operand by `g` does in its two forms. -/
theorem updateForms_of {mk : Opnd8 → Instr} {g : Byte → Byte → Byte × Byte} {P : Byte → Cpu → Byte → Byte → Prop}
    (hexec : ∀ s o, exec (mk o) s = .next (updateOpnd g o s)) (h : ∀ v c, P v c (g v c.f).1 (g v c.f).2) :
    UpdateForms mk P := by
  intro s
  refine ⟨fun r => ?_, ?_⟩
  · have hw := s.cpu.setF_setReg8_wrote r (g (s.cpu.reg8 r) s.cpu.f).1 (g (s.cpu.reg8 r) s.cpu.f).2
    exact ⟨_, hexec s (.reg r), hw.value.symm ▸ h _ _, hw.value.symm ▸ hw,
      elapsed_of 0 s fun c => (c.setReg8 r _).setF _⟩
  · exact ⟨_, _, _, hexec s .indHl, h _ _, congrArg (Cpu.setF _) (memWrite_cpu ..), stored_of 1 s _ _ _⟩

/-! ## The instructions -/

/-- Settles O16: ADD is an addition without carry in, ADC one with C. -/
theorem addAdc : Obligations.AddAdc :=
  ⟨aluForms_of fun v c => ⟨aluAdd_value c.a v false, aluAdd_flags c.a v false, rfl⟩,
    aluForms_of fun v c => ⟨aluAdd_value c.a v (flagC c.f), aluAdd_flags c.a v (flagC c.f), rfl⟩⟩

/-- Settles O17: SUB and CP are a subtraction without borrow in, SBC one with C. -/
theorem subSbcCp : Obligations.SubSbcCp :=
  ⟨aluForms_of fun v c => ⟨⟨aluSub_value c.a v false, aluSub_flags c.a v false⟩, rfl⟩,
    aluForms_of fun v c => ⟨⟨aluSub_value c.a v (flagC c.f), aluSub_flags c.a v (flagC c.f)⟩, rfl⟩,
    aluForms_of fun v c => ⟨⟨_, aluSub_value c.a v false, aluSub_flags c.a v false⟩, rfl⟩⟩

/-- Settles O18: the bits of AND, XOR and OR, and their common flags. -/
theorem logic : Obligations.Logic :=
  ⟨aluForms_of fun v c => ⟨fun _ => BitVec.getLsbD_and, logic_flags (by decide) (by decide) c.a v (flagC c.f), rfl⟩,
    aluForms_of fun v c => ⟨fun _ => BitVec.getLsbD_xor, logic_flags (by decide) (by decide) c.a v (flagC c.f), rfl⟩,
    aluForms_of fun v c => ⟨fun _ => BitVec.getLsbD_or, logic_flags (by decide) (by decide) c.a v (flagC c.f), rfl⟩⟩

/-- Settles O19: what subtracting gives plus the subtrahend is the sum again; the rest are the values and flags. -/
theorem aluLaws : Obligations.AluLaws := by
  refine ⟨fun a b => ⟨?_, rfl⟩, fun _ _ => ⟨rfl, rfl⟩, fun a b k => ?_, fun op a b k => ?_, fun a b k => ?_⟩
  · have hsum := aluAdd_value a b false
    have hdiff := aluSub_value (aluAdd a b false).1 b false
    bv_omega
  · have hdiff := aluSub_value a b k
    exact ⟨aluAdd_value a b k, (aluAdd_flags a b k).c, by omega, (aluSub_flags a b k).c⟩
  · rw [extractLsb'_zero_eq_ofNat, ofNat_toNat_eq_zero_iff]
    exact (toNat_and_lowNibble _).symm.trans (congrArg BitVec.toNat (aluResult_low op a b k))
  · have hand := logic_flags (op := .and) (H := True) (by decide) (by decide) a b k
    have hxor := logic_flags (op := .xor) (H := False) (by decide) (by decide) a b k
    have hor := logic_flags (op := .or) (H := False) (by decide) (by decide) a b k
    refine ⟨hand.h.2 trivial, Bool.eq_false_iff.2 hxor.h.1, Bool.eq_false_iff.2 hor.h.1, fun op hop => ?_⟩
    have hflags := logic_flags hop Iff.rfl a b k
    exact ⟨Bool.eq_false_iff.2 hflags.c.1, Bool.eq_false_iff.2 hflags.n.1⟩

/-- Settles O20: both are updates of an operand. -/
theorem incDec8 : Obligations.IncDec8 :=
  ⟨updateForms_of (incOpnd_eq ▸ exec_inc8) fun v c => ⟨incResult_value v c.f, incResult_flags v c.f⟩,
    updateForms_of (decOpnd_eq ▸ exec_dec8) fun v c => ⟨decResult_value v c.f, decResult_flags v c.f⟩⟩

/-- Settles O21: 0x60 is a multiple of 16, so the low digit is tested on A before or after the high correction. -/
theorem decimalAdjust : Obligations.DecimalAdjust := by
  intro s
  refine ⟨_, rfl, rfl, mapCpu_elapsed _, fun hn => ?_, daaResult_after_sub⟩
  obtain ⟨hvalue, hflags⟩ := daaResult_after_add (a := s.cpu.a) hn
  refine ⟨fun hhigh a1 ha1 => ?_, fun hlow => ?_, hflags⟩
  · have hdigit : a1 % 16 = s.cpu.a.toNat % 16 := by omega
    rw [if_pos hhigh] at hvalue
    rw [hdigit]
    refine hvalue.trans ?_
    split_ifs <;> omega
  · rw [if_neg hlow] at hvalue
    refine hvalue.trans ?_
    split_ifs <;> omega

/-- Two decimal digits as a byte. -/
def bcd (n : Nat) : Byte := BitVec.ofNat 8 (16 * (n / 10) + n % 10)

theorem bcd_toNat {n : Nat} (h : n < 100) : (bcd n).toNat = 16 * (n / 10) + n % 10 := Nat.mod_eq_of_lt (by omega)

/-- The binary sum of two bytes of digits passes 0x99 where the decimal sum passes 99, and its low digit carries or
passes 9 where the decimal one passes 9. -/
theorem daa_aluAdd_bcd {x y : Nat} (hx : x < 100) (hy : y < 100) :
    let r := aluAdd (bcd x) (bcd y) false
    (daaResult r.1 r.2).1 = bcd ((x + y) % 100) ∧ ((daaResult r.1 r.2).2.getLsbD 4 = true ↔ 100 ≤ x + y) := by
  intro r
  have hX := bcd_toNat hx
  have hY := bcd_toNat hy
  have hsum : r.1.toNat = ((bcd x).toNat + (bcd y).toNat) % 256 := aluAdd_value _ _ false
  have hF : FlagsAre r.2 _ _ _ _ := aluAdd_flags (bcd x) (bcd y) false
  obtain ⟨hvalue, hflags⟩ := daaResult_after_add (a := r.1) (Bool.eq_false_iff.2 hF.n.1)
  have hhigh : r.2.getLsbD 4 = true ∨ 0x99 < r.1.toNat ↔ 100 ≤ x + y := by rw [hF.c, Bool.toNat_false]; omega
  have hlow : r.2.getLsbD 5 = true ∨ 9 < r.1.toNat % 16 ↔ 9 < x % 10 + y % 10 := by
    rw [hF.h, Bool.toNat_false]; omega
  simp only [hhigh, hlow] at hvalue
  refine ⟨BitVec.eq_of_toNat_eq ?_, hflags.c.trans hhigh⟩
  rw [hvalue, bcd_toNat (Nat.mod_lt _ (by decide))]
  split_ifs <;> omega

/-- The binary difference borrows, and its low digit does, where the decimal ones do. -/
theorem daa_aluSub_bcd {x y : Nat} (hx : x < 100) (hy : y < 100) :
    let r := aluSub (bcd x) (bcd y) false
    (daaResult r.1 r.2).1 = bcd ((x + 100 - y) % 100) ∧ ((daaResult r.1 r.2).2.getLsbD 4 = true ↔ x < y) := by
  intro r
  have hX := bcd_toNat hx
  have hY := bcd_toNat hy
  have hdiff : (r.1.toNat + (bcd y).toNat) % 256 = (bcd x).toNat := aluSub_value _ _ false
  have hF : FlagsAre r.2 _ _ _ _ := aluSub_flags (bcd x) (bcd y) false
  obtain ⟨hvalue, hflags⟩ := daaResult_after_sub (a := r.1) (hF.n.2 trivial)
  have hhigh : r.2.getLsbD 4 = true ↔ x < y := by rw [hF.c, Bool.toNat_false]; omega
  have hlow : r.2.getLsbD 5 = true ↔ x % 10 < y % 10 := by rw [hF.h, Bool.toNat_false]; omega
  simp only [hhigh, hlow] at hvalue
  refine ⟨BitVec.eq_of_toNat_eq ?_, hflags.c.trans hhigh⟩
  rw [bcd_toNat (Nat.mod_lt _ (by decide))]
  have hlt := (daaResult r.1 r.2).1.isLt
  split_ifs at hvalue <;> omega

/-- Settles O22: DAA corrects the binary sum and difference of two bytes of digits to the decimal ones. -/
theorem daaDecimal : Obligations.DaaDecimal := by
  rintro ⟨⟩ x y hx hy rfl
  exact ⟨daa_aluAdd_bcd hx hy, daa_aluSub_bcd hx hy⟩

/-- Settles O23: each packs the flags it names. -/
theorem complementAndCarry : Obligations.ComplementAndCarry := by
  intro s z c
  refine ⟨⟨_, rfl, fun i hi => ?_, ?_, rfl, mapCpu_elapsed _⟩, ⟨_, rfl, ?_, rfl, mapCpu_elapsed _⟩,
    ⟨_, rfl, ?_, rfl, mapCpu_elapsed _⟩⟩
  · exact (BitVec.getLsbD_not ..).trans (by simp [hi])
  · exact flagsAre_packF Iff.rfl (by decide) (by decide) Iff.rfl
  · exact flagsAre_packF Iff.rfl (by decide) (by decide) (by decide)
  · exact flagsAre_packF Iff.rfl (by decide) (by decide) (by simp [c, flagC, bit])

end Sys2Proof.Machine
end

section
/-! PROOF. 16-bit arithmetic (spec/42_alu16.md): a pair written together with F, and the flags of the two sums as
carry conditions; then the instructions, whose sums are the model's word additions. -/

namespace Sys2Proof.Machine

/-! ## A pair written, then F -/

@[simp] theorem Cpu.rp_setF (c : Cpu) (f : Byte) (p : Rp) : (c.setF f).rp p = c.rp p := by cases p <;> rfl

theorem Cpu.setF_setRp_wrote (c : Cpu) (p : Rp) (v : Word) (f : Byte) : c.WroteRp p v f ((c.setRp p v).setF f) :=
  have h := c.setRp_wrote p v
  { value := (rp_setF ..).trans h.value
    others := fun q hq => (rp_setF ..).trans (h.others q hq)
    a := h.a
    flags := rfl
    control := ⟨h.control.pc, h.control.ime, h.control.imePending, h.control.halted, h.control.locked⟩ }

/-! ## Flags of the sums -/

/-- The carries out of bits 11 and 15 (R302). -/
theorem addHlResult_flags (a b : Word) (f : Byte) :
    FlagsAre (addHlResult a b f).2 (f.getLsbD 7 = true) False (4096 ≤ a.toNat % 4096 + b.toNat % 4096)
      (65536 ≤ a.toNat + b.toNat) := by
  have low (w : Word) : (w &&& 0x0FFF).toNat = w.toNat % 4096 := Nat.and_two_pow_sub_one_eq_mod _ 12
  exact flagsAre_packF Iff.rfl (by decide) (by rw [decide_eq_true_iff, low, low]; rfl) decide_eq_true_iff

/-- The carries out of bits 3 and 7 are those of SP's low byte and the unsigned displacement (R303, R304). -/
theorem addSpResult_flags (sp : Word) (e : Byte) :
    FlagsAre (addSpResult sp e).2 False False (16 ≤ sp.toNat % 256 % 16 + e.toNat % 16)
      (256 ≤ sp.toNat % 256 + e.toNat) := by
  have lowByte : (sp &&& 0xFF).toNat = sp.toNat % 256 := Nat.and_two_pow_sub_one_eq_mod _ 8
  have lowNibble : (sp &&& 0x0F).toNat = sp.toNat % 256 % 16 :=
    (Nat.and_two_pow_sub_one_eq_mod _ 4).trans (Nat.mod_mod_of_dvd _ (by decide)).symm
  exact flagsAre_packF (by decide) (by decide)
    (by rw [decide_eq_true_iff, lowNibble, toNat_and_lowNibble]; rfl) (by rw [decide_eq_true_iff, lowByte]; rfl)

/-! ## The instructions -/

/-- Settles O25: one idle M-cycle, then the sum in HL and its carries in F. -/
theorem Alu16.addHl : Obligations.AddHl := fun s p =>
  ⟨_, exec_addHl s p, elapsed_of 1 s (Cpu.addHl p), s.cpu.setF_setRp_wrote .hl _ _, addHlResult_flags _ _ _⟩

/-- Settles O26: one sum and its flags; the two forms differ in the destination and in their idle M-cycles. -/
theorem Alu16.addSp : Obligations.AddSp := fun s e =>
  ⟨⟨_, rfl, elapsed_of 2 s (Cpu.addSp e), s.cpu.setF_setRp_wrote .sp _ _, addSpResult_flags _ _⟩,
    ⟨_, rfl, elapsed_of 1 s (Cpu.ldHlSp e), s.cpu.setF_setRp_wrote .hl _ _, addSpResult_flags _ _⟩⟩

/-- Settles O24: one idle M-cycle, then the pair written and F left alone. -/
theorem incDecPair : Obligations.IncDecPair := fun s p =>
  ⟨⟨_, exec_incPair s p, s.cpu.setRp_wrote p _, elapsed_of 1 s _⟩,
    ⟨_, exec_decPair s p, s.cpu.setRp_wrote p _, elapsed_of 1 s _⟩⟩

end Sys2Proof.Machine
end

section
/-! PROOF. Rotates, shifts and bit operations (spec/43_rotate_shift_bit.md): every shift bit by bit, as a move one place
up or down with a given bit entering, or as SWAP's exchange; then the instructions, which are updates of an operand but
for the accumulator rotates and BIT. -/

namespace Sys2Proof.Machine

/-! ## The bits of the results -/

theorem boolByte_getLsbD (b : Bool) (k : Nat) : (boolByte b).getLsbD k = (decide (k = 0) && b) := by
  cases k <;> simp [boolByte, BitVec.getLsbD_setWidth]

/-- A move one place up, with `b` entering at bit 0. -/
theorem shiftUp_getLsbD (v : Byte) (b : Bool) {k : Nat} (hk : k < 8) :
    (v <<< 1 ||| boolByte b).getLsbD k = if k = 0 then b else v.getLsbD (k - 1) := by
  rw [BitVec.getLsbD_or, BitVec.getLsbD_shiftLeft, boolByte_getLsbD]
  by_cases h : k = 0
  · simp [h]
  · have h1 : ¬k < 1 := by omega
    simp [h, h1, hk]

/-- A move one place down, with `b` entering at bit 7. -/
theorem shiftDown_getLsbD (v : Byte) (b : Bool) {k : Nat} (hk : k < 8) :
    (v >>> 1 ||| boolByte b <<< 7).getLsbD k = if k = 7 then b else v.getLsbD (k + 1) := by
  rw [BitVec.getLsbD_or, BitVec.getLsbD_ushiftRight, BitVec.getLsbD_shiftLeft, boolByte_getLsbD]
  by_cases h : k = 7
  · simp [h]
  · have h7 : k < 7 := by omega
    simp [h, h7, Nat.add_comm 1]

theorem nibbleSwap_getLsbD (v : Byte) {k : Nat} (hk : k < 8) :
    (v <<< 4 ||| v >>> 4).getLsbD k = v.getLsbD ((k + 4) % 8) := by
  rw [BitVec.getLsbD_or, BitVec.getLsbD_shiftLeft, BitVec.getLsbD_ushiftRight]
  by_cases h : k < 4
  · have hlow : (k + 4) % 8 = 4 + k := by omega
    simp [h, hlow]
  · have hhigh : (k + 4) % 8 = k - 4 := by omega
    have hout : v.getLsbD (4 + k) = false := BitVec.getLsbD_of_ge v _ (by omega)
    simp [h, hk, hhigh, hout]

theorem and_signBit (v : Byte) : v &&& 0x80 = boolByte (v.getLsbD 7) <<< 7 := by
  calc v &&& 0x80 = if v.getLsbD 7 then 0x80 else 0 := BitVec.and_twoPow v 7
    _ = boolByte (v.getLsbD 7) <<< 7 := by cases v.getLsbD 7 <;> rfl

/-- Bit by bit (R324): SLA and SRL are moves with a zero entering, SRA one with the sign bit. -/
theorem shiftResult_bits (op : ShiftOp) (v : Byte) (c : Bool) {k : Nat} (hk : k < 8) :
    (shiftResult op v c).1.getLsbD k = shiftBit op v c k := by
  cases op
  case rlc => exact shiftUp_getLsbD v (v.getLsbD 7) hk
  case rrc => exact shiftDown_getLsbD v (v.getLsbD 0) hk
  case rl => exact shiftUp_getLsbD v c hk
  case rr => exact shiftDown_getLsbD v c hk
  case sla => exact (congrArg (BitVec.getLsbD · k) BitVec.or_zero).symm.trans (shiftUp_getLsbD v false hk)
  case sra =>
    have hsign := congrArg (fun w => (v >>> 1 ||| w).getLsbD k) (and_signBit v)
    exact hsign.trans (shiftDown_getLsbD v (v.getLsbD 7) hk)
  case swap => exact nibbleSwap_getLsbD v hk
  case srl => exact (congrArg (BitVec.getLsbD · k) BitVec.or_zero).symm.trans (shiftDown_getLsbD v false hk)

theorem shiftResult_out (op : ShiftOp) (v : Byte) (c : Bool) : (shiftResult op v c).2 = shiftOut op v := by
  cases op <;> rfl

/-- `1 <<< b` has bit `b` alone. -/
theorem oneShifted_getLsbD (b : Fin 8) (k : Nat) : ((1 : Byte) <<< b.val).getLsbD k = decide (k = b.val) := by
  calc ((1 : Byte) <<< b.val).getLsbD k = (decide (b.val < 8) && decide (b.val = k)) := BitVec.getLsbD_twoPow b.val k
    _ = decide (k = b.val) := by simp [eq_comm]

theorem resBit_getLsbD (v : Byte) (b : Fin 8) {k : Nat} (hk : k < 8) :
    (resBit v b).getLsbD k = if k = b.val then false else v.getLsbD k := by
  rw [resBit, BitVec.getLsbD_and, BitVec.getLsbD_not, oneShifted_getLsbD]
  by_cases h : k = b.val <;> simp [h, hk]

theorem setBit_getLsbD (v : Byte) (b : Fin 8) (k : Nat) :
    (setBit v b).getLsbD k = if k = b.val then true else v.getLsbD k := by
  rw [setBit, BitVec.getLsbD_or, oneShifted_getLsbD]
  by_cases h : k = b.val <;> simp [h]

theorem bitFlags_flags (v f : Byte) (b : Fin 8) :
    FlagsAre (bitFlags v b f) (v.getLsbD b = false) False True (f.getLsbD 4 = true) :=
  flagsAre_packF (Bool.not_eq_true' _).to_iff (by decide) (by decide) Iff.rfl

/-! ## The operand forms as updates -/

/-- A CB shift of `v` with carry in from `f`: the result and F. -/
def shiftUpdate (op : ShiftOp) (v f : Byte) : Byte × Byte :=
  let q := shiftResult op v (flagC f)
  (q.1, shiftFlags q.1 q.2)

theorem shiftOpnd_eq (op : ShiftOp) : shiftOpnd op = updateOpnd (shiftUpdate op) := rfl

theorem shiftUpdate_flags (op : ShiftOp) (v f : Byte) :
    FlagsAre (shiftUpdate op v f).2 ((shiftUpdate op v f).1 = 0) False False (shiftOut op v = true) :=
  flagsAre_packF beq_iff_eq (by decide) (by decide) (by rw [shiftResult_out])

theorem writeOpnd_readOpnd_flags (o : Opnd8) (v : Byte) (s : State) :
    (writeOpnd o v (readOpnd o s).2).cpu.f = s.cpu.f := by
  rcases o with r | _
  · exact (s.cpu.setReg8_wrote r v).flags
  · exact congrArg Cpu.f (memWrite_cpu ..)

/-- Writing an operand back and leaving F alone is an update that sets F to what it was. -/
theorem writeBack_eq_updateOpnd (g : Byte → Byte) (o : Opnd8) (s : State) :
    writeOpnd o (g (readOpnd o s).1) (readOpnd o s).2 = updateOpnd (fun v f => (g v, f)) o s := by
  have hf := writeOpnd_readOpnd_flags o (g (readOpnd o s).1) s
  exact congrArg (fun f => mapCpu (Cpu.setF f) (writeOpnd o (g (readOpnd o s).1) (readOpnd o s).2)) hf

theorem resOpnd_eq (b : Fin 8) : resOpnd b = updateOpnd (fun v f => (resBit v b, f)) :=
  funext₂ (writeBack_eq_updateOpnd (resBit · b))

theorem setOpnd_eq (b : Fin 8) : setOpnd b = updateOpnd (fun v f => (setBit v b, f)) :=
  funext₂ (writeBack_eq_updateOpnd (setBit · b))

/-! ## The instructions -/

/-- Settles O27: each is a CB rotate of A, with Z cleared. -/
theorem rotateA : Obligations.RotateA := by
  intro s i op hi
  have hexec : exec i s = .next (mapCpu (Cpu.rotateA op) s) := by
    simp only [List.mem_cons, Prod.mk.injEq, List.not_mem_nil, or_false] at hi
    obtain ⟨rfl, rfl⟩ | ⟨rfl, rfl⟩ | ⟨rfl, rfl⟩ | ⟨rfl, rfl⟩ := hi <;> rfl
  exact ⟨_, hexec, rfl, mapCpu_elapsed _, fun _ => shiftResult_bits op s.cpu.a _,
    flagsAre_packF (by decide) (by decide) (by decide) (by rw [shiftResult_out])⟩

/-- Settles O28: an update of an operand by the shift and its flags. -/
theorem cbShift : Obligations.CbShift := fun op =>
  updateForms_of (shiftOpnd_eq op ▸ (exec_shift · op)) fun v c =>
    ⟨fun _ => shiftResult_bits op v _, shiftUpdate_flags op v c.f⟩

/-- Settles O29: only F is written, after no M-cycle or the one that reads. -/
theorem testBit : Obligations.TestBit := fun s b =>
  ⟨fun r => ⟨_, exec_bit s b (.reg r), rfl, mapCpu_elapsed _, bitFlags_flags ..⟩,
    ⟨_, exec_bit s b .indHl, rfl, elapsed_of 1 s _, bitFlags_flags ..⟩⟩

/-- Settles O30: both write the operand back and leave F alone. -/
theorem resSet : Obligations.ResSet := fun b =>
  ⟨updateForms_of (resOpnd_eq b ▸ (exec_res · b)) fun v _ => ⟨rfl, fun _ => resBit_getLsbD v b⟩,
    updateForms_of (setOpnd_eq b ▸ (exec_set · b)) fun v _ => ⟨rfl, fun k _ => setBit_getLsbD v b k⟩⟩

end Sys2Proof.Machine
end

section
/-! PROOF. Control transfer (spec/44_control.md): the two outcomes of a condition once, for any transfer; what a jump, a
call and a return leave in the registers and the frame of their M-cycles; then the instructions. -/

namespace Sys2Proof.Machine

variable {s : State}

/-! ## Conditions -/

theorem condHolds_iff (cc : Cond) (f : Byte) : condHolds cc f = true ↔ cc.Holds f := by
  cases cc
  case nz => exact (Bool.not_eq_true' _).to_iff
  case z => exact Iff.rfl
  case nc => exact (Bool.not_eq_true' _).to_iff
  case c => exact Iff.rfl

/-- What each branch of a conditional instruction does, the instruction does when its condition says so. -/
theorem exec_cond {i : Instr} {cc : Cond} {taken fallen : State} {P Q : State → Prop}
    (hexec : exec i s = .next (if condHolds cc s.cpu.f then taken else fallen)) (hP : P taken) (hQ : Q fallen) :
    ∃ t, exec i s = .next t ∧ (cc.Holds s.cpu.f → P t) ∧ (¬cc.Holds s.cpu.f → Q t) := by
  refine ⟨_, hexec, fun h => ?_, fun h => ?_⟩
  · rwa [if_pos ((condHolds_iff ..).2 h)]
  · rwa [if_neg (mt (condHolds_iff ..).1 h)]

/-! ## What a jump, a call and a return do to the registers, and their frames -/

theorem jp_jumps (a : Word) : (jp a s).cpu = { s.cpu with pc := a } ∧ Elapsed 1 s (jp a s) :=
  ⟨rfl, elapsed_of 1 s _⟩

theorem jr_jumps (e : Byte) :
    (jr e s).cpu = { s.cpu with pc := s.cpu.pc + e.signExtend 16 } ∧ Elapsed 1 s (jr e s) :=
  ⟨rfl, elapsed_of 1 s fun c => c.setPc (c.relative e)⟩

theorem call_pushes (a : Word) :
    (call a s).cpu = { s.cpu with sp := s.cpu.sp - 2, pc := a } ∧
      StoredTwo 1 s (call a s) (s.cpu.sp - 1) (hiByte s.cpu.pc) (s.cpu.sp - 2) (loByte s.cpu.pc) := by
  rw [call, push16_idle, mapCpu_mapCpu]
  exact ⟨by simp [Cpu.setPc, Cpu.setSp], storedTwo_of 1 s _ _ _ _ _⟩

/-- A return in closed form: the pop's two reads, an idle M-cycle, and one change of SP and PC. -/
theorem returnFrom_eq :
    returnFrom s =
      mapCpu (fun c => (c.setSp (c.sp + 2)).setPc
        (word (busRead (transferState (tick s)) (s.cpu.sp + 1)) (busRead (transferState s) s.cpu.sp))) (ticks 3 s) := by
  rw [returnFrom, pop16_eq]
  rfl

/-! ## The instructions -/

/-- Settles O31: a jump is one idle M-cycle, none for JP HL, and a write of PC. -/
theorem Control.jump : Obligations.Jump := fun s =>
  ⟨fun n => ⟨_, rfl, jp_jumps n⟩, fun cc n => exec_cond (exec_jpCond s cc n) (jp_jumps n) rfl,
    ⟨_, rfl, rfl, mapCpu_elapsed _⟩, fun e => ⟨_, rfl, jr_jumps e⟩,
    fun cc e => exec_cond (exec_jrCond s cc e) (jr_jumps e) rfl⟩

/-- Settles O32: a restart is a call of its vector. -/
theorem Control.call : Obligations.Call := fun s =>
  ⟨fun n => ⟨_, rfl, call_pushes n⟩, fun cc n => exec_cond (exec_callCond s cc n) (call_pushes n) rfl,
    fun y => ⟨_, exec_rst s y, call_pushes _⟩⟩

/-- Settles O33: RET cc, if taken, is a return after one idle M-cycle; RETI is a return that also sets IME. -/
theorem Control.return : Obligations.Return := by
  intro s popped
  refine ⟨⟨_, rfl, ?_⟩, fun cc => exec_cond (exec_retCond s cc) ?_ ⟨rfl, elapsed_of 1 s id⟩, ⟨_, rfl, ?_⟩⟩
  · rw [ret, returnFrom_eq]
    exact ⟨rfl, elapsed_of 3 s _⟩
  · rw [returnFrom_eq]
    exact ⟨rfl, elapsed_of 4 s _⟩
  · rw [reti, returnFromInterrupt, returnFrom_eq, mapCpu_mapCpu]
    exact ⟨rfl, elapsed_of 3 s _⟩

end Sys2Proof.Machine
end

section
/-! PROOF. System and control instructions (spec/45_system.md): the five plain instructions, the CB prefix, and EI's
deferral, for which a step on a one-byte instruction in plain memory and the taking of an interrupt are given in closed
form. -/

namespace Sys2Proof.Machine

variable {s : State}

/-! ## The instructions alone -/

/-- Settles O34: each is a change of the registers, or none. -/
theorem systemInstructions : Obligations.SystemInstructions := fun _ => ⟨rfl, rfl, rfl, rfl, rfl⟩

/-- The CB table by the quarters of the byte (30_encoding.md R177, R180). -/
theorem decodeCb_eq_ite (b : Byte) :
    decodeCb b =
      if b.toNat < 0x40 then .shift (shiftOfCode (fieldY b)) (r8OfCode (fieldZ b))
      else if b.toNat < 0x80 then .bit (indexOfCode (fieldY b)) (r8OfCode (fieldZ b))
      else if b.toNat < 0xC0 then .res (indexOfCode (fieldY b)) (r8OfCode (fieldZ b))
      else .set (indexOfCode (fieldY b)) (r8OfCode (fieldZ b)) := by
  have hb : b.toNat < 256 := b.isLt
  unfold decodeCb
  split_ifs
  · simp only [show fieldX b = 0 by unfold fieldX; omega]
  · simp only [show fieldX b = 1 by unfold fieldX; omega]
  · simp only [show fieldX b = 2 by unfold fieldX; omega]
  · simp only [show fieldX b = 3 by unfold fieldX; omega]

/-- Settles O36: the CB table's row of the fetched byte, executed after its fetch. -/
theorem cbPrefix : Obligations.CbPrefix := by
  intro s
  have h := exec_decodeCb (fetch8 s).2 (fetch8 s).1
  rw [decodeCb_eq_ite] at h
  exact ⟨prefix_ s, rfl, h⟩

/-! ## A step on a one-byte instruction -/

/-- The registers once a step has fetched a one-byte instruction: awake, IME promoted (60_exceptions.md R410, R412). -/
def Cpu.afterOpcode (c : Cpu) : Cpu :=
  { c with pc := c.pc + 1, ime := c.ime || c.imePending, imePending := false, halted := false }

theorem Cpu.promoteIme_eq (c : Cpu) : c.promoteIme = { c with ime := c.ime || c.imePending, imePending := false } := by
  obtain ⟨⟩ := c
  unfold promoteIme
  split <;> simp_all

theorem step_of_fetches (h : s.fetches) :
    step s = exec (fetchInstr s.beforeFetch).1 (fetchInstr s.beforeFetch).2 := by
  obtain ⟨hlocked, hhalted, hdispatch⟩ := h
  have hturn : turn s = .run (fetchInstr s.beforeFetch).1 (fetchInstr s.beforeFetch).2 := by
    unfold turn
    rw [if_neg (by simp [hlocked]), if_neg hhalted]
    exact if_neg hdispatch
  rw [step, hturn]

theorem fetch8_plain (h : plainAddr s.cpu.pc) :
    fetch8 s = (busRead s s.cpu.pc, mapCpu (fun c => c.setPc (c.pc + 1)) (tick s)) := by
  rw [fetch8, memRead_plain s h]

theorem fetchInstr_oneByte {o : Byte} (h : plainAddr s.cpu.pc) (ho : busRead s s.cpu.pc = o) (hlen : instrLen o = 1) :
    fetchInstr s = (decodeOp o 0 0, mapCpu (fun c => c.setPc (c.pc + 1)) (tick s)) := by
  simp only [fetchInstr, fetch8_plain h, ho, hlen]

/-- The opcode fetch starts where PC is, and the bus shows what it showed. -/
theorem fetchInstr_beforeFetch_oneByte {o : Byte} (h : plainAddr s.cpu.pc) (ho : busRead s s.cpu.pc = o)
    (hlen : instrLen o = 1) : fetchInstr s.beforeFetch = (decodeOp o 0 0, mapCpu Cpu.afterOpcode (tick s)) := by
  have hpc : s.beforeFetch.cpu.pc = s.cpu.pc := by simp [State.beforeFetch, Cpu.promoteIme_eq, Cpu.wake]
  rw [fetchInstr_oneByte (by rwa [hpc]) (by rw [hpc]; exact ho) hlen]
  simp only [State.beforeFetch, tick_mapCpu, mapCpu_mapCpu, Cpu.promoteIme_eq]
  rfl

/-- A step on a one-byte instruction in plain memory that changes only the registers, by `g`, is one M-cycle. -/
theorem step_oneByte {o : Byte} (g : Cpu → Cpu) (hf : s.fetches) (h : plainAddr s.cpu.pc)
    (ho : busRead s s.cpu.pc = o) (hlen : instrLen o = 1) (hg : ∀ u, exec (decodeOp o 0 0) u = .next (mapCpu g u)) :
    ∃ t, step s = .next t ∧ t.cpu = g s.cpu.afterOpcode ∧ Elapsed 1 s t := by
  refine ⟨mapCpu (fun c => g c.afterOpcode) (tick s), ?_, rfl, elapsed_of 1 s _⟩
  rw [step_of_fetches hf, fetchInstr_beforeFetch_oneByte h ho hlen, hg, mapCpu_mapCpu]

/-! ## Taking an interrupt -/

/-- An enabled request stays pending: neither IE nor the requests of IF have changed. -/
theorem Undisturbed.pending_ne_zero {t : State} (h : Undisturbed s t) (hreq : pending s ≠ 0) : pending t ≠ 0 := by
  have hie : t.ie = s.ie := congrArg Settings.ie h.settings
  intro h0
  refine hreq ?_
  calc pending s
    _ = s.ifl &&& t.ifl &&& s.ie.extractLsb' 0 5 := by rw [h.requests]; rfl
    _ = s.ifl &&& pending t := by rw [BitVec.and_assoc, ← hie]; rfl
    _ = 0 := by rw [h0]; exact BitVec.and_zero

theorem step_dispatches (hlocked : s.cpu.locked = false) (hime : s.cpu.ime = true) (hreq : pending s ≠ 0) :
    step s = .next (dispatch (mapCpu Cpu.wake s)) := by
  have hturn : turn s = .done (dispatch (mapCpu Cpu.wake s)) := by
    unfold turn
    rw [if_neg (by simp [hlocked]), if_neg fun h => hreq h.2]
    exact if_pos ⟨hime, hreq⟩
  rw [step, hturn]

/-- Taking an interrupt writes PC, SP and IME (60_exceptions.md R415). -/
theorem dispatch_cpu (s : State) :
    (dispatch s).cpu = { s.cpu with
      pc := vectorOf (pendingSource (pending s)), sp := s.cpu.sp - 2, ime := false, imePending := false } := by
  simp only [dispatch, push16_idle]
  simp [Cpu.setPc, Cpu.setSp, Cpu.disableIme]

/-! ## EI's deferral -/

/-- Settles O39: EI leaves IME clear, so the next step fetches and promotes IME; a NOP keeps the promotion, so the third
step takes the request, which time does not withdraw, and DI clears it. -/
theorem eiDeferral : Obligations.EiDeferral := by
  intro s hlocked hhalted hime himePending hreq hpc hpc1 hei
  obtain ⟨t, hst, htcpu, ⟨-, heiFrame⟩⟩ :=
    step_oneByte Cpu.ei ⟨hlocked, by simp [hhalted], by simp [hime]⟩ hpc hei (by decide) fun _ => rfl
  replace htcpu : t.cpu = { s.cpu with pc := s.cpu.pc + 1, imePending := true } := by
    simp [htcpu, Cpu.afterOpcode, Cpu.ei, hhalted, hime, himePending]
  have htf : t.fetches := by simp [State.fetches, htcpu, hlocked, hhalted, hime]
  have htpc : plainAddr t.cpu.pc := by rwa [htcpu]
  have htread : busRead t t.cpu.pc = busRead s (s.cpu.pc + 1) := by rw [htcpu]; exact heiFrame.reads _ hpc1
  refine ⟨fun hnop => ?_, fun hdi => ?_⟩
  · obtain ⟨u, htu, hucpu, ⟨-, hnopFrame⟩⟩ := step_oneByte id htf htpc (htread.trans hnop) (by decide) fun _ => rfl
    replace hucpu : u.cpu = { s.cpu with pc := s.cpu.pc + 2, ime := true } := by
      simp [hucpu, htcpu, Cpu.afterOpcode, hhalted, himePending, BitVec.add_assoc]
    have hureq : pending u ≠ 0 := hnopFrame.pending_ne_zero (heiFrame.pending_ne_zero hreq)
    have huv := step_dispatches (by rwa [hucpu]) (by rw [hucpu]) hureq
    refine ⟨t, u, _, hst, htu, huv, htcpu, hucpu, ?_⟩
    simp [dispatch_cpu, Cpu.wake, hucpu, vectorOf]
  · obtain ⟨u, htu, hucpu, -⟩ := step_oneByte Cpu.di htf htpc (htread.trans hdi) (by decide) fun _ => rfl
    refine ⟨t, u, hst, htu, ?_⟩
    simp [hucpu, htcpu, Cpu.afterOpcode, Cpu.di, hime, hhalted, himePending, BitVec.add_assoc]

end Sys2Proof.Machine
end

section
/-! PROOF. The step and taking an interrupt (spec/60_exceptions.md): a step that fetches as exec of the decoded bytes, for
any bytes and for code in plain memory; the idle runs of the lock and of the halted state; a step that takes an interrupt
in closed form, and its frame. -/

namespace Sys2Proof.Machine

variable {s : State}

/-! ## Fetching: the bytes one by one, and the instruction they decode to -/

/-- The decoder reads back the fetched bytes as the instruction fetched, with no byte left and from the same state. -/
theorem decode_fetchBytes (s : State) :
    decode (fetchBytes (instrLen (fetch8 s).1) s).1 = .ok ((fetchInstr s).1, []) ∧
      (fetchBytes (instrLen (fetch8 s).1) s).2 = (fetchInstr s).2 := by
  unfold fetchInstr
  obtain h | h | h := instrLen_cases (fetch8 s).1
  · simp only [h, fetchBytes, and_true]
    exact decode_one h []
  · simp only [h, fetchBytes, and_true]
    exact decode_two h _ []
  · simp only [h, fetchBytes, and_true]
    exact decode_three h _ _ []

/-- Settles O4: the instruction fetched is the one the decoder reads from the bytes fetched. -/
theorem stepRunsFetched : Obligations.StepRunsFetched := by
  intro s hs
  obtain ⟨hdecode, hstate⟩ := decode_fetchBytes s.beforeFetch
  exact ⟨_, hdecode, hstate ▸ step_of_fetches hs⟩

/-! ## Code in plain memory -/

/-- The bus shows the bytes `l` from address `a` on, at addresses whose value time does not change. -/
def State.Shows (s : State) (a : Word) (l : List Byte) : Prop :=
  ∀ k, k < l.length → plainAddr (a + BitVec.ofNat 16 k) ∧ l[k]? = some (busRead s (a + BitVec.ofNat 16 k))

theorem add_ofNat_succ (a : Word) (k : Nat) : a + BitVec.ofNat 16 (k + 1) = a + 1 + BitVec.ofNat 16 k := by
  rw [Nat.add_comm k 1, BitVec.ofNat_add, BitVec.add_assoc]
  rfl

theorem State.Shows.head {a : Word} {v : Byte} {l : List Byte} (h : s.Shows a (v :: l)) :
    plainAddr a ∧ busRead s a = v := by
  obtain ⟨hplain, hread⟩ := h 0 (Nat.succ_pos _)
  rw [BitVec.add_zero] at hplain hread
  exact ⟨hplain, (Option.some.inj hread).symm⟩

theorem State.Shows.tail {a : Word} {v : Byte} {l : List Byte} (h : s.Shows a (v :: l)) : s.Shows (a + 1) l := by
  intro k hk
  rw [← add_ofNat_succ]
  exact h (k + 1) (Nat.succ_lt_succ hk)

/-- One M-cycle, whatever it does to the registers, changes no byte of plain code. -/
theorem State.Shows.mapCpu_tick {a : Word} {l : List Byte} (h : s.Shows a l) (f : Cpu → Cpu) :
    (mapCpu f (tick s)).Shows a l := by
  intro k hk
  obtain ⟨hplain, hread⟩ := h k hk
  exact ⟨hplain, by rw [busRead_mapCpu, busRead_tick s hplain, hread]⟩

/-- Fetching plain code gives its bytes, one M-cycle each, and leaves PC after it. -/
theorem fetchBytes_of_shows {l : List Byte} (h : s.Shows s.cpu.pc l) :
    fetchBytes l.length s =
      (l, mapCpu (Cpu.setPc (s.cpu.pc + BitVec.ofNat 16 l.length)) (ticks l.length s)) := by
  induction l generalizing s with
  | nil =>
    simp only [fetchBytes, List.length_nil, ticks, BitVec.add_zero]
    rfl
  | cons v l ih =>
    obtain ⟨hplain, hread⟩ := h.head
    have hfetch : fetch8 s = (v, mapCpu (fun c => c.setPc (c.pc + 1)) (tick s)) := by rw [fetch8_plain hplain, hread]
    have hrest := ih (h.tail.mapCpu_tick fun c => c.setPc (c.pc + 1))
    simp only [List.length_cons, fetchBytes, hfetch, hrest, ticks, ticks_mapCpu, mapCpu_mapCpu, add_ofNat_succ]
    rfl

/-- A well-formed instruction's encoding starts with the byte its length is read from (30_encoding.md R171). -/
theorem exists_encode_eq_cons {i : Instr} (hwf : i.wellFormed = true) (hi : i ≠ .prefixCb) :
    ∃ o l, encode i = o :: l ∧ (encode i).length = instrLen o := by
  have hdecode := decodeEncode i hwf [] fun _ => rfl
  obtain rfl | ⟨o, b1, b2, rfl⟩ := eq_decodeOp_of_decode hdecode
  · exact absurd rfl hi
  · rw [(encodeDecode o b1 b2).2]
    obtain h | h | h := instrLen_cases o <;> rw [h] <;> exact ⟨_, _, rfl, h.symm⟩

theorem beforeFetch_pc (s : State) : s.beforeFetch.cpu.pc = s.cpu.pc := by
  simp [State.beforeFetch, Cpu.promoteIme_eq, Cpu.wake]

/-- Settles O5: the bytes fetched are the encoding, and decoding undoes encoding. -/
theorem stepRunsPlainCode : Obligations.StepRunsPlainCode := by
  intro s i hs hwf hi hcode
  have hshows : s.beforeFetch.Shows s.beforeFetch.cpu.pc (encode i) := by
    rw [beforeFetch_pc]
    exact hcode
  obtain ⟨o, l, hcons, hlen⟩ := exists_encode_eq_cons hwf hi
  have hopcode : (fetch8 s.beforeFetch).1 = o := by
    obtain ⟨hplain, hread⟩ := (hcons ▸ hshows).head
    rw [fetch8_plain hplain, hread]
  have hdecode : decode (encode i) = .ok (i, []) := by
    simpa using decodeEncode i hwf [] fun _ => rfl
  obtain ⟨j, hj, hstep⟩ := stepRunsFetched s hs
  rw [hopcode, ← hlen, fetchBytes_of_shows hshows, beforeFetch_pc] at hj hstep
  cases hdecode.symm.trans hj
  exact hstep

/-! ## Idle steps -/

/-- A run each of whose steps is one idle M-cycle is that many M-cycles. -/
theorem run_eq_ticks {n : Nat} (h : ∀ k, k < n → step (ticks k s) = .next (tick (ticks k s))) :
    Host.Core.run core n s = .next (ticks n s) := by
  induction n generalizing s with
  | zero => rfl
  | succ n ih =>
    have hfirst : core.step s = .next (tick s) := h 0 (Nat.succ_pos n)
    simp only [Host.Core.run, hfirst]
    exact ih fun k hk => h (k + 1) (Nat.succ_lt_succ hk)

theorem step_locked (hlocked : s.cpu.locked = true) : step s = .next (tick s) := by
  rw [step, turn, if_pos hlocked]
  rfl

theorem step_halted (hlocked : s.cpu.locked = false) (hhalted : s.cpu.halted = true) (hreq : pending s = 0) :
    step s = .next (tick s) := by
  rw [step, turn, if_neg (by simp [hlocked]), if_pos ⟨hhalted, hreq⟩]
  rfl

/-- Settles O35: time changes no register, so every state of the run is locked and every step idle. -/
theorem lock : Obligations.Lock := by
  refine ⟨fun _ _ _ => rfl, fun s n hlocked => ⟨⟨?_, ticks_cpu s n, ticks_tickCount s n⟩, fun _ => rfl⟩⟩
  exact run_eq_ticks fun k _ => step_locked (by rwa [ticks_cpu])

/-- With a request, leaving the halted state costs nothing (60_exceptions.md R422). -/
theorem step_wake (hlocked : s.cpu.locked = false) (hreq : pending s ≠ 0) : step s = step (mapCpu Cpu.wake s) := by
  cases hime : s.cpu.ime with
  | true =>
    rw [step_dispatches hlocked hime hreq, step_dispatches (s := mapCpu Cpu.wake s) hlocked hime hreq]
    rfl
  | false =>
    have hs : s.fetches := ⟨hlocked, fun h => hreq h.2, by simp [hime]⟩
    have hwoken : (mapCpu Cpu.wake s).fetches := ⟨hlocked, fun h => hreq h.2, by simp [Cpu.wake, hime]⟩
    rw [step_of_fetches hs, step_of_fetches hwoken]
    rfl

/-- Settles O37: without a request time passes and changes no register; with one the step is the woken machine's. -/
theorem halted : Obligations.Halted := by
  intro s hlocked hhalted
  refine ⟨fun n hidle => ⟨run_eq_ticks fun k hk => ?_, ticks_cpu s n⟩, fun hreq => ⟨step_wake hlocked hreq, ?_⟩⟩
  · exact step_halted (by rwa [ticks_cpu]) (by rwa [ticks_cpu]) (hidle k hk)
  · intro hime
    exact ⟨⟨hlocked, fun h => hreq h.2, by simp [hime]⟩, beforeFetch_pc s, rfl⟩

/-! ## Taking an interrupt -/

/-- Source j is pending when it is requested and enabled (60_exceptions.md R411). -/
theorem pending_getLsbD {j : Nat} (hj : j < 5) : (pending s).getLsbD j = (s.ifl.getLsbD j && s.ie.getLsbD j) := by
  simp [pending, hj]

/-- The source served is pending, and no lower one is (60_exceptions.md R413). -/
theorem pendingSource_lowest :
    ∀ p : BitVec 5, p ≠ 0 → pendingSource p < 5 ∧ p.getLsbD (pendingSource p) = true ∧
      ∀ j, j < pendingSource p → p.getLsbD j = false := by
  decide

@[simp] theorem ackIrq_settings (k : Nat) (s : State) : (ackIrq k s).settings = s.settings := rfl

@[simp] theorem ackIrq_byteAt (k : Nat) (s : State) (l : Loc) : (ackIrq k s).byteAt l = s.byteAt l := by
  cases l <;> rfl

@[simp] theorem ackIrq_mapCpu (k : Nat) (f : Cpu → Cpu) (s : State) : ackIrq k (mapCpu f s) = mapCpu f (ackIrq k s) :=
  rfl

/-- The registers once the interrupt of source k is taken (60_exceptions.md R414, R415). -/
def Cpu.interrupted (k : Nat) (c : Cpu) : Cpu :=
  { c with pc := vectorOf k, sp := c.sp - 2, ime := false, imePending := false, halted := false }

/-- A step that takes an interrupt, in closed form: two idle M-cycles after the acknowledgement, the two bytes of PC, one
more idle M-cycle, and one change of the registers (60_exceptions.md R415). -/
theorem step_interrupts (hlocked : s.cpu.locked = false) (hime : s.cpu.ime = true) (hreq : pending s ≠ 0) :
    step s =
      .next (mapCpu (Cpu.interrupted (pendingSource (pending s)))
        (tick (memWrite (memWrite (ticks 2 (ackIrq (pendingSource (pending s)) s)) (s.cpu.sp - 1) (hiByte s.cpu.pc))
          (s.cpu.sp - 2) (loByte s.cpu.pc)))) := by
  rw [step_dispatches hlocked hime hreq, dispatch, push16_idle]
  simp only [pending_mapCpu, ackIrq_mapCpu, idle_eq, tick_mapCpu, ticks_mapCpu, memWrite_mapCpu, mapCpu_mapCpu]
  rfl

/-- What time cannot change it still cannot after two writes, neither of them to 0xFF46. -/
theorem memWrite_memWrite_still {a1 a2 : Word} (v1 v2 : Byte) {l : Loc}
    (h : l.plain ∨ (s.dma.quiet ∧ regionOf a1 ≠ .io .dma ∧ regionOf a2 ≠ .io .dma)) :
    (memWrite (memWrite s a1 v1) a2 v2).still l :=
  h.imp id fun ⟨hquiet, h1, h2⟩ => memWrite_quiet (memWrite_quiet hquiet h1 v1) h2 v2

/-- Settles O38: the acknowledgement changes neither settings nor memory, so the frame is that of the push and of the
M-cycle after it. -/
theorem Interrupt.dispatch : Obligations.Dispatch := by
  intro s hlocked hime hreq
  obtain ⟨hlt, hserved, hlower⟩ := pendingSource_lowest (pending s) hreq
  have hstep := step_interrupts hlocked hime hreq
  generalize pendingSource (pending s) = k at *
  obtain ⟨-, hsettings, hrequests, hmemory⟩ :=
    storedTwo_of 2 (ackIrq k s) id (s.cpu.sp - 1) (s.cpu.sp - 2) (hiByte s.cpu.pc) (loByte s.cpu.pc)
  refine ⟨_, k, hstep, hlt, ?_, fun j hj => ?_, ?_, rfl, ?_, fun h1 h2 => ?_, fun l hl => ?_⟩
  · rwa [← pending_getLsbD hlt]
  · rw [← pending_getLsbD (hj.trans hlt)]
    exact hlower j hj
  · simp [Cpu.interrupted, vectorOf]
  · exact ((tick_settings _).trans hsettings).trans (busWrite_settings (busWrite_settings (ackIrq_settings k s) _ _) _ _)
  · exact keeps_trans (hrequests h1 h2) (tick_requests _)
  · have hpushed := hmemory l (hl.imp id And.left)
    rw [ackIrq_byteAt] at hpushed
    rw [byteAt_mapCpu]
    refine (ticks_still 1 _ (memWrite_memWrite_still _ _ ?_)).trans hpushed
    exact hl.imp id fun ⟨hquiet, haddrs⟩ => ⟨ticks_quiet (ackIrq k s) hquiet 2, haddrs⟩

end Sys2Proof.Machine
end

section
/-! PROOF. The timer, the OAM transfer and the joypad (spec/61_timer_dma_joypad.md): the request bits each device owns,
the poll that ends a tick, the divider's bits as halves of a period, and the transfer engine M-cycle by M-cycle. -/

namespace Sys2Proof.Machine

variable {s : State} {a : Word}

/-! ## Requests by device -/

theorem videoDot_irq_of_two_le (vram oam : Memory) (e : VideoEffect) {k : Nat} (hk : 2 ≤ k) :
    (videoDot vram oam e).irq.getLsbD k = e.irq.getLsbD k := by
  have h0 : decide (k = 0) = false := decide_eq_false (by omega)
  have h1 : decide (k = 1) = false := decide_eq_false (by omega)
  simp [videoDot, advanceDot_irq_bit, statIrq_bit, h0, h1]

/-- The video unit requests bits 0 and 1 only (62_video.md R530, R532). -/
theorem videoTick_irq_of_two_le (vram oam : Memory) (v : Video) {k : Nat} (hk : 2 ≤ k) :
    (videoTick vram oam v).irq.getLsbD k = false := by
  unfold videoTick
  split
  · simp only [videoDot_irq_of_two_le _ _ _ hk]
    exact BitVec.getLsbD_zero
  · exact BitVec.getLsbD_zero

theorem tick_timerRequest (s : State) :
    (tick s).ifl.getLsbD 2 = (s.ifl.getLsbD 2 || (timerFalls (countDivider s.timer) && s.timer.tima == 0xFF)) := by
  simp only [tick_ifl_eq, BitVec.getLsbD_or, videoTick_irq_of_two_le _ _ _ (Nat.le_refl 2), timerIrq_bit,
    joypadIrq_bit]
  simp

theorem tick_lines (s : State) : (tick s).joypad.lines = pollLines s.cfg s.tickCount s.joypad.sel := rfl

theorem tick_joypadRequest (s : State) :
    (tick s).ifl.getLsbD 4 = (s.ifl.getLsbD 4 || (joypadIrq s.joypad.lines (tick s).joypad.lines).getLsbD 4) := by
  simp only [tick_ifl_eq, BitVec.getLsbD_or, videoTick_irq_of_two_le _ _ _ (show 2 ≤ 4 by decide), timerIrq_bit,
    ← tick_lines]
  simp

/-! ## The joypad poll -/

/-- Settles O52: the lines are those of the poll, and the request is that of a line that falls. -/
theorem Joypad.joypadPoll : Obligations.JoypadPoll := by
  intro s i hi input low
  have hlow : (tick s).joypad.lines.getLsbD i = false ↔ low := pollLines_getLsbD s.cfg s.tickCount s.joypad.sel hi
  refine ⟨hlow, fun hreleased hpressed => ?_, fun hnone => ?_⟩
  · rw [tick_joypadRequest, joypadIrq_of_fall ⟨i, hi, hreleased, hlow.2 hpressed⟩]
    exact Bool.or_true _
  · rw [tick_joypadRequest, joypadIrq_of_no_fall hnone]
    exact Bool.or_false _

/-! ## The timer, one M-cycle -/

theorem timerTap_eq : ∀ tac : BitVec 3, timerTap (tac.extractLsb' 0 2) = [7, 1, 3, 5].getD (tac.toNat % 4) 0 := by
  decide

theorem timerTick_eq (t : Timer) :
    timerTick t =
      { t with
        div16 := t.div16 + 1
        prev := timerSignal (countDivider t)
        tima :=
          if timerFalls (countDivider t) = true then if t.tima = 0xFF then t.tma else t.tima + 1 else t.tima } := by
  unfold timerTick
  simp only
  split <;> rfl

/-- Settles O49: TIMA is clocked where the latch is set and the counted divider's tap, under the enable bit, is
clear. -/
theorem Timer.timerTick : Obligations.TimerTick := by
  intro s t d tap sig falls
  have hsig : timerSignal (countDivider s.timer) = sig := by
    rw [timerSignal, timerTap_eq]
    rfl
  have hfalls : timerFalls (countDivider s.timer) = true ↔ falls := by
    rw [timerFalls, hsig, Bool.and_eq_true, Bool.not_eq_true']
    rfl
  have htimer : t.timer = _ := timerTick_eq s.timer
  rw [htimer]
  refine ⟨rfl, hsig, rfl, rfl, fun h => if_neg (mt hfalls.1 h), fun h hmax => ?_, fun h hmax => ⟨?_, ?_⟩, fun h => ?_⟩
  · exact (if_pos (hfalls.2 h)).trans (if_neg hmax)
  · exact (if_pos (hfalls.2 h)).trans (if_pos hmax)
  · simp [t, tick_timerRequest, hfalls.2 h, hmax]
  · have hkept : (timerFalls (countDivider s.timer) && s.timer.tima == 0xFF) = false := by
      rw [Bool.and_eq_false_iff, ← Bool.not_eq_true, hfalls, beq_eq_false_iff_ne]
      exact not_and_or.1 h
    rw [tick_timerRequest, hkept, Bool.or_false]

/-! ## The timer's rate -/

/-- The M-cycles between two falls of the selected tap (61_timer_dma_joypad.md R456). -/
def timerPeriod (tac : BitVec 3) : Nat := 2 ^ (timerTap (tac.extractLsb' 0 2) + 1)

theorem timerPeriod_eq : ∀ tac : BitVec 3, timerPeriod tac = [256, 4, 16, 64].getD (tac.toNat % 4) 0 := by
  decide

/-- The period divides the divider's wrap. -/
theorem timerPeriod_dvd : ∀ tac : BitVec 3, timerPeriod tac ∣ 65536 := by
  decide

/-- Bit `i` of a number is set in the upper half of its period. -/
theorem testBit_eq_upperHalf (x i : Nat) : x.testBit i = decide (2 ^ i ≤ x % 2 ^ (i + 1)) := by
  have hlow : x % 2 ^ i < 2 ^ i := Nat.mod_lt _ (Nat.two_pow_pos i)
  rw [Nat.testBit_eq_decide_div_mod_eq, Nat.mod_pow_succ, decide_eq_decide]
  rcases Nat.mod_two_eq_zero_or_one (x / 2 ^ i) with h | h <;> rw [h] <;> omega

/-- Bit `i` falls from a number to the next where a period ends. -/
theorem testBit_falls_iff (x i : Nat) :
    (x.testBit i = true ∧ (x + 1).testBit i = false) ↔ 2 ^ (i + 1) ∣ x + 1 := by
  have hpos : 0 < 2 ^ i := Nat.two_pow_pos i
  have hp : 2 ^ (i + 1) = 2 * 2 ^ i := Nat.pow_succ'
  have hr : x % 2 ^ (i + 1) < 2 ^ (i + 1) := Nat.mod_lt _ (Nat.two_pow_pos _)
  rw [testBit_eq_upperHalf, testBit_eq_upperHalf, decide_eq_true_iff, decide_eq_false_iff_not, Nat.dvd_iff_mod_eq_zero,
    ← Nat.mod_add_mod]
  by_cases hend : x % 2 ^ (i + 1) + 1 = 2 ^ (i + 1)
  · rw [hend, Nat.mod_self]
    omega
  · rw [Nat.mod_eq_of_lt (by omega : x % 2 ^ (i + 1) + 1 < 2 ^ (i + 1))]
    omega

/-- While enabled the signal is the tap: set in the upper half of the period (61_timer_dma_joypad.md R454). -/
theorem timerSignal_eq {t : Timer} (hon : t.tac.getLsbD 2 = true) :
    timerSignal t = t.div16.toNat.testBit (timerTap (t.tac.extractLsb' 0 2)) := by
  rw [timerSignal, hon, Bool.and_true]
  rfl

/-- The edge latch holds the signal of the divider it stands beside (61_timer_dma_joypad.md R454). -/
def Timer.Agrees (t : Timer) : Prop := t.prev = timerSignal t

theorem timerTick_agrees (t : Timer) : (Machine.timerTick t).Agrees := by
  rw [timerTick_eq]
  rfl

theorem ticks_agrees (h : s.timer.Agrees) (n : Nat) : (ticks n s).timer.Agrees := by
  cases n with
  | zero => exact h
  | succ n =>
    rw [ticks_succ]
    exact timerTick_agrees _

theorem timerTap_lt (sel : BitVec 2) : timerTap sel < 16 := by
  revert sel
  decide

/-- With the latch agreeing, TIMA is clocked where a period ends. -/
theorem timerFalls_iff {t : Timer} (hon : t.tac.getLsbD 2 = true) (h : t.Agrees) :
    timerFalls (countDivider t) = true ↔ timerPeriod t.tac ∣ t.div16.toNat + 1 := by
  have hnext : timerSignal (countDivider t) = (t.div16.toNat + 1).testBit (timerTap (t.tac.extractLsb' 0 2)) := by
    rw [timerSignal_eq (t := countDivider t) hon]
    show ((t.div16.toNat + 1) % 2 ^ 16).testBit _ = _
    rw [Nat.testBit_mod_two_pow, decide_eq_true (timerTap_lt _), Bool.true_and]
    rfl
  rw [timerPeriod, ← testBit_falls_iff, ← timerSignal_eq hon, ← hnext, ← h, timerFalls, Bool.and_eq_true,
    Bool.not_eq_true']
  rfl

theorem ticks_div16_toNat (s : State) (n : Nat) :
    (ticks n s).timer.div16.toNat = (s.timer.div16.toNat + n) % 65536 := by
  induction n with
  | zero => exact (Nat.mod_eq_of_lt s.timer.div16.isLt).symm
  | succ n ih =>
    rw [ticks_succ, tick_timer, timerTick_eq]
    show ((ticks n s).timer.div16.toNat + 1) % 65536 = _
    rw [ih, Nat.mod_add_mod, Nat.add_assoc]

theorem ticks_tac (s : State) (n : Nat) : (ticks n s).timer.tac = s.timer.tac :=
  congrArg Settings.tac (ticks_settings n s)

/-- The ends of periods are those of the M-cycles counted on past the divider's wrap. -/
theorem timerPeriod_dvd_ticks (s : State) (n : Nat) :
    timerPeriod s.timer.tac ∣ (ticks n s).timer.div16.toNat + 1 ↔
      timerPeriod s.timer.tac ∣ s.timer.div16.toNat + n + 1 := by
  rw [ticks_div16_toNat, Nat.dvd_iff_mod_eq_zero, Nat.dvd_iff_mod_eq_zero, ← Nat.mod_add_mod,
    Nat.mod_mod_of_dvd _ (timerPeriod_dvd _), Nat.mod_add_mod]

/-- The latch that the statement of the rate supposes is the signal. -/
theorem Timer.agrees_iff {t : Timer} (hon : t.tac.getLsbD 2 = true) :
    t.Agrees ↔ t.prev = decide (timerPeriod t.tac / 2 ≤ t.div16.toNat % timerPeriod t.tac) := by
  rw [Agrees, timerSignal_eq hon, testBit_eq_upperHalf, timerPeriod, Nat.pow_succ,
    Nat.mul_div_cancel _ (by decide : 0 < 2)]

/-- Settles O50: one M-cycle more counts once more exactly where it ends a period. -/
theorem timerRate : Obligations.TimerRate := by
  intro s n period d count hon hlatch hmax
  have hperiod : timerPeriod s.timer.tac = period := timerPeriod_eq _
  have hagrees : s.timer.Agrees := by
    rw [Timer.agrees_iff hon, hperiod]
    exact hlatch
  induction n with
  | zero => simp [ticks, count]
  | succ n ih =>
    have hcount : count = (d + n) / period - d / period + if period ∣ d + n + 1 then 1 else 0 := by
      have hle : d / period ≤ (d + n) / period := Nat.div_le_div_right (Nat.le_add_right d n)
      show (d + n + 1) / period - d / period = _
      rw [Nat.succ_div, Nat.sub_add_comm hle]
    rw [hcount] at hmax ⊢
    have hstep := timerFalls_iff (t := (ticks n s).timer) (by rwa [ticks_tac]) (ticks_agrees hagrees n)
    rw [ticks_tac, timerPeriod_dvd_ticks, hperiod] at hstep
    have htima := ih (by omega)
    rw [ticks_succ, tick_timer, timerTick_eq]
    by_cases hend : period ∣ d + n + 1
    · rw [if_pos hend] at hmax ⊢
      have hroom : (ticks n s).timer.tima.toNat ≠ 255 := by omega
      have hne : (ticks n s).timer.tima ≠ 0xFF := fun h => hroom (congrArg BitVec.toNat h)
      simp only [if_pos (hstep.2 hend), if_neg hne]
      show ((ticks n s).timer.tima.toNat + 1) % 256 = _
      omega
    · rw [if_neg hend] at hmax ⊢
      simp only [if_neg (mt hstep.1 hend)]
      exact htima

/-! ## OAM during a transfer -/

/-- What the devices of a tick hold plays no part at a plain address. -/
theorem busRead_with_devices (h : plainAddr a) (s : State) (dma : Dma) (video : Video) (audio : Audio) (ifl : BitVec 5)
    (out : List OutEvent) :
    busRead { s with dma := dma, video := video, audio := audio, ifl := ifl, out := out } a = busRead s a := by
  obtain ⟨hoam, hio⟩ := regionOf_plain h
  unfold busRead
  split
  · rfl
  · cases hr : regionOf a with
    | oam k => exact absurd hr (hoam k)
    | io r => exact absurd hr (hio r)
    | _ => rfl

/-- Whether a transfer is active plays no part outside OAM (61_timer_dma_joypad.md R462). -/
theorem dmaRead_of_not_oam (h : a.toNat < 0xFE00 ∨ 0xFE9F < a.toNat) : dmaRead s a = busRead s a := by
  by_cases hplain : plainAddr a
  · exact busRead_with_devices hplain s _ _ _ _ _
  · unfold plainAddr at hplain
    have hio := regionOf_ioRange (a := a) (by omega) (by omega)
    rw [dmaRead, (State.maps_io hio).1, (State.maps_io hio).1]
    cases ioRegOf (a.toNat - 0xFF00) <;> rfl

/-- Settles O45: a read and a write of OAM ask whether a transfer is active, and no other access does. -/
theorem oamBlocked : Obligations.OamBlocked := by
  refine fun s a hactive => ⟨fun hlow hhigh => ?_, fun hout => (dmaRead_of_not_oam hout).symm⟩
  have hregion := regionOf_oamRange hlow hhigh
  constructor
  · rw [busRead, if_neg (not_overlay_of_region hregion nofun), hregion]
    exact if_pos hactive
  · intro v
    rw [busWrite, hregion]
    simp only [if_pos hactive]

/-! ## The transfer, M-cycle by M-cycle -/

/-- The engine once `n` bytes of a page are copied, no request waiting (61_timer_dma_joypad.md R461). -/
def Dma.copying (page : Byte) (n : Nat) : Dma := ⟨none, none, decide (n < 160), word page 0, n, page⟩

/-- The first M-cycle after a request moves it to the queue's second stage (61_timer_dma_joypad.md R460). -/
theorem dmaStep_queued {d : Dma} (h : d.quiet) (page : Byte) :
    dmaStart (dmaAdvance { d with reg := page, q1 := some page }) = { d with reg := page, q2 := some page } := by
  obtain ⟨hactive, hq1, hq2⟩ := h
  simp [dmaAdvance, dmaStart, hactive, hq1, hq2]

/-- The second one starts the transfer (61_timer_dma_joypad.md R461). -/
theorem dmaStep_starting {d : Dma} (h : d.quiet) (page : Byte) :
    dmaStart (dmaAdvance { d with reg := page, q2 := some page }) = Dma.copying page 0 := by
  obtain ⟨hactive, hq1, -⟩ := h
  simp [dmaAdvance, dmaStart, Dma.copying, hactive, hq1]

theorem dmaStep_copying {page : Byte} {n : Nat} (hn : n < 160) :
    dmaStart (dmaAdvance (Dma.copying page n)) = Dma.copying page (n + 1) := by
  have hlast : decide (n + 1 ≠ 160) = decide (n + 1 < 160) := decide_eq_decide.2 (by omega)
  simp only [dmaAdvance, dmaStart, Dma.copying, decide_eq_true hn, if_pos, hlast]

/-- While the engine copies, each M-cycle copies one byte more (61_timer_dma_joypad.md R461). -/
theorem ticks_copying {page : Byte} (h : s.dma = Dma.copying page 0) {n : Nat} (hn : n ≤ 160) :
    (ticks n s).dma = Dma.copying page n := by
  induction n with
  | zero => exact h
  | succ n ih => rw [ticks_succ, tick_dma, ih (by omega), dmaStep_copying hn]

/-- The byte an M-cycle of a transfer copies: the source shows what the video and audio stages of that M-cycle left
(61_timer_dma_joypad.md R450, R463). -/
def State.copiedByte (s : State) (page : Byte) (k : Nat) : Byte :=
  dmaRead (audioStage (videoStage s)) (word page 0 + BitVec.ofNat 16 k)

theorem tick_oam_copying {page : Byte} {n : Nat} (h : s.dma = Dma.copying page n) (hn : n < 160) :
    (tick s).oam = s.oam.write n (s.copiedByte page n) := by
  have hoam : (tick s).oam = if s.dma.active then s.oam.write s.dma.idx
      (dmaRead (audioStage (videoStage s)) (s.dma.src + BitVec.ofNat 16 s.dma.idx)) else s.oam := rfl
  rw [hoam, h]
  exact if_pos (decide_eq_true hn)

/-- After `n` M-cycles the first `n` bytes are copied and the rest are as they were. -/
theorem ticks_oam_copying {page : Byte} (h : s.dma = Dma.copying page 0) {n : Nat} (hn : n ≤ 160) (k : Nat) :
    (ticks n s).oam.read k = if k < n then (ticks k s).copiedByte page k else s.oam.read k := by
  induction n with
  | zero => rfl
  | succ n ih =>
    rw [ticks_succ, tick_oam_copying (ticks_copying h (by omega)) hn, Memory.read_write, ih (by omega)]
    rcases Nat.lt_trichotomy k n with hlt | rfl | hgt
    · rw [if_neg (by omega), if_pos hlt, if_pos (by omega)]
    · rw [if_pos rfl, if_pos (by omega)]
    · rw [if_neg (by omega), if_neg (by omega), if_neg (by omega)]

theorem plainAddr_source {page : Byte} (h : page.toNat < 0xFE) {k : Nat} (hk : k < 160) :
    plainAddr (word page 0 + BitVec.ofNat 16 k) := by
  have hsrc : (word page 0 + BitVec.ofNat 16 k).toNat = 256 * page.toNat + k := by
    rw [BitVec.toNat_add, word_toNat, BitVec.toNat_ofNat]
    show (256 * page.toNat + 0 + k % 65536) % 65536 = _
    omega
  exact .inl (by omega)

/-- A request waits in the start queue and changes nothing else (61_timer_dma_joypad.md R460). -/
theorem busWrite_dmaRequest (s : State) (page : Byte) :
    busWrite s 0xFF46 page = { s with dma := { s.dma with reg := page, q1 := some page } } :=
  (State.maps_ioAt s 0x46 .dma).2 page

/-- Settles O51: two M-cycles after the request the engine copies from the start of its page, and OAM is as it was. -/
theorem dmaCopies : Obligations.DmaCopies := by
  intro s page hquiet u
  have hu : u = { s with dma := { s.dma with reg := page, q1 := some page } } := busWrite_dmaRequest s page
  have hqueued : (tick u).dma = { s.dma with reg := page, q2 := some page } := by
    rw [hu]
    exact dmaStep_queued hquiet page
  have hstarts : (ticks 2 u).dma = Dma.copying page 0 := by
    show dmaStart (dmaAdvance (tick u).dma) = _
    rw [hqueued]
    exact dmaStep_starting hquiet page
  have hoff : u.dma.active = false := by rw [hu]; exact hquiet.1
  have hwaits : (tick u).dma.active = false := by rw [hqueued]; exact hquiet.1
  have hoam : (ticks 2 u).oam = s.oam := by
    show (tick (tick u)).oam = _
    rw [tick_oam _ hwaits, tick_oam _ hoff, hu]
  have hcopied : ∀ k, (ticks 162 u).oam.read k =
      if k < 160 then (ticks (k + 2) u).copiedByte page k else s.oam.read k := fun k => by
    rw [← hoam]
    exact ticks_oam_copying hstarts (Nat.le_refl 160) k
  refine ⟨fun n hn => ?_, fun k hk => (hcopied k).trans (if_pos hk), fun hpage k hk => ?_,
    fun k hk => (hcopied k).trans (if_neg (by omega))⟩
  · match n with
    | 0 => exact iff_of_false (Bool.eq_false_iff.1 hoff) (by omega)
    | 1 => exact iff_of_false (Bool.eq_false_iff.1 hwaits) (by omega)
    | n + 2 =>
      show (ticks n (ticks 2 u)).dma.active = true ↔ _
      rw [ticks_copying hstarts (by omega), Dma.copying, decide_eq_true_iff]
      omega
  · have hplain := plainAddr_source hpage hk
    calc (ticks 162 u).oam.read k
        = (ticks (k + 2) u).copiedByte page k := (hcopied k).trans (if_pos hk)
      _ = busRead (ticks (k + 2) u) (word page 0 + BitVec.ofNat 16 k) :=
        busRead_with_devices hplain (ticks (k + 2) u) _ _ _ _ _
      _ = busRead u (word page 0 + BitVec.ofNat 16 k) := busRead_ticks u hplain _
      _ = busRead s (word page 0 + BitVec.ofNat 16 k) := by
        rw [hu]
        exact busRead_with_devices hplain s _ _ _ _ _

end Sys2Proof.Machine
end

section
/-! PROOF. The video unit's frame and requests (spec/62_video.md): what one dot does to the frame position, the two
frame events and the STAT latch, then a run of dots and the four of an M-cycle. -/

namespace Sys2Proof.Machine

variable (vram oam : Memory)

/-! ## One dot -/

theorem Video.Inv.framePos_lt {v : Video} (h : v.Inv) : v.framePos < 70224 := by
  have hly := h.ly_lt
  have hdot := h.dot_lt
  unfold Video.framePos
  omega

theorem dotWork_framePos (v : Video) : (dotWork vram oam v).1.framePos = v.framePos := by
  obtain ⟨⟨hly, hdot, -⟩, -⟩ := dotWork_frame vram oam v
  rw [Video.framePos, hly, hdot, Video.framePos]

/-- The counters move to the next dot, the next line or the next frame (62_video.md R512, R530). -/
theorem advanceDot_framePos {v : Video} (hly : v.ly < 154) (hdot : v.dot < 456) :
    (advanceDot v).video.framePos = (v.framePos + 1) % 70224 := by
  unfold advanceDot endOfLine Video.framePos
  by_cases hline : v.dot + 1 = 456
  · rw [if_pos hline]
    by_cases h144 : v.ly + 1 = 144
    · simp only [if_pos h144]
      omega
    · by_cases h154 : v.ly + 1 = 154
      · simp only [if_neg h144, if_pos h154]
        omega
      · simp only [if_neg h144, if_neg h154]
        omega
  · rw [if_neg hline]
    show 456 * v.ly + (v.dot + 1) = _
    omega

/-- Only the end of line 153 signals the frame (62_video.md R530, R535). -/
theorem frameComplete_mem_advanceDot (v : Video) :
    OutEvent.frameComplete ∈ (advanceDot v).calls ↔ v.dot + 1 = 456 ∧ v.ly + 1 = 154 := by
  unfold advanceDot endOfLine
  by_cases hline : v.dot + 1 = 456
  · rw [if_pos hline]
    by_cases h144 : v.ly + 1 = 144
    · simp [h144]
    · by_cases h154 : v.ly + 1 = 154 <;> simp [hline, h144, h154]
  · simp [hline]

variable {e : VideoEffect}

theorem videoDot_framePos (h : e.video.Inv) :
    (videoDot vram oam e).video.framePos = (e.video.framePos + 1) % 70224 := by
  have hwork := dotWork_afterWork vram oam h
  rw [← dotWork_framePos vram oam e.video, ← advanceDot_framePos hwork.ly_lt hwork.dot_lt]
  rfl

/-- The dot before line 144 requests VBlank (62_video.md R530, R531). -/
theorem videoDot_vblank (h : e.video.Inv) :
    (videoDot vram oam e).irq.getLsbD 0 = true ↔ e.irq.getLsbD 0 = true ∨ e.video.framePos + 1 = 144 * 456 := by
  obtain ⟨⟨hly, hdot, -⟩, -⟩ := dotWork_frame vram oam e.video
  have hpos : (e.video.dot + 1 = 456 ∧ e.video.ly + 1 = 144) ↔ e.video.framePos + 1 = 144 * 456 := by
    have hlt := h.dot_lt
    unfold Video.framePos
    omega
  simp only [videoDot, BitVec.getLsbD_or, advanceDot_irq_bit, statIrq_bit, hly, hdot, ← hpos]
  simp

/-- The frame's last dot signals it complete (62_video.md R535). -/
theorem videoDot_frameComplete (h : e.video.Inv) :
    OutEvent.frameComplete ∈ (videoDot vram oam e).calls ↔
      OutEvent.frameComplete ∈ e.calls ∨ e.video.framePos + 1 = 70224 := by
  obtain ⟨⟨hly, hdot, -⟩, hwork⟩ := dotWork_frame vram oam e.video
  have hpos : (e.video.dot + 1 = 456 ∧ e.video.ly + 1 = 154) ↔ e.video.framePos + 1 = 70224 := by
    have hlt := h.dot_lt
    unfold Video.framePos
    omega
  simp [videoDot, frameComplete_mem_advanceDot, hwork, hly, hdot, ← hpos, or_comm]

/-! ## The STAT signal -/

theorem statSignal_eq_true_iff (v : Video) :
    statSignal v = true ↔
      (v.statEn.getLsbD 3 = true ∧ v.ly = v.lyc.toNat) ∨ (v.statEn.getLsbD 2 = true ∧ v.mode = .oamScan) ∨
        (v.statEn.getLsbD 1 = true ∧ v.mode = .vblank) ∨ (v.statEn.getLsbD 0 = true ∧ v.mode = .hblank) := by
  simp only [statSignal, Bool.or_eq_true, Bool.and_eq_true, decide_eq_true_eq, or_assoc]

/-- The latch holds the signal of the unit it stands in: the signal does not read the latch. -/
theorem videoDot_statLine (e : VideoEffect) :
    (videoDot vram oam e).video.statLine = statSignal (videoDot vram oam e).video := rfl

theorem videoDot_statRequest (e : VideoEffect) :
    (videoDot vram oam e).irq.getLsbD 1 =
      (e.irq.getLsbD 1 || (statSignal (videoDot vram oam e).video && !e.video.statLine)) := by
  obtain ⟨⟨-, -, hlatch⟩, -⟩ := dotWork_frame vram oam e.video
  have hline : (advanceDot (dotWork vram oam e.video).1).video.statLine = e.video.statLine :=
    (advanceDot_statLine _).trans hlatch
  rw [← videoDot_statLine]
  simp only [videoDot, BitVec.getLsbD_or, advanceDot_irq_bit, statIrq_bit, hline]
  simp [statUpdate]

/-- Settles O55: the latch is the signal, and the request compares it with the latch before the dot, which neither
the dot's work nor the counters' move touches. -/
theorem statEdge : Obligations.StatEdge := by
  intro vram oam e v signal
  have hsignal : statSignal v = true ↔ signal := statSignal_eq_true_iff v
  constructor
  · rw [videoDot_statLine]
    exact hsignal
  · rw [videoDot_statRequest, Bool.or_eq_true, Bool.and_eq_true, Bool.not_eq_true']
    exact or_congr_right (and_congr_left' hsignal)

/-! ## A run of dots -/

theorem dots_inv (h : e.video.Inv) (n : Nat) : ((videoDot vram oam)^[n] e).video.Inv :=
  Function.Iterate.rec (fun e : VideoEffect => e.video.Inv) h (fun _ => videoDot_inv vram oam) n

theorem dots_framePos (h : e.video.Inv) (n : Nat) :
    ((videoDot vram oam)^[n] e).video.framePos = (e.video.framePos + n) % 70224 := by
  induction n with
  | zero => exact (Nat.mod_eq_of_lt h.framePos_lt).symm
  | succ n ih =>
    rw [Function.iterate_succ_apply', videoDot_framePos vram oam (dots_inv vram oam h n), ih, Nat.mod_add_mod,
      Nat.add_assoc]

/-- An event that the dot before position `m` makes, and no other, is made by a run exactly when the run executes that
dot. -/
theorem dots_event {P : VideoEffect → Prop} {m : Nat}
    (hdot : ∀ {e : VideoEffect}, e.video.Inv → (P (videoDot vram oam e) ↔ P e ∨ e.video.framePos + 1 = m))
    (h : e.video.Inv) (n : Nat) :
    P ((videoDot vram oam)^[n] e) ↔ P e ∨ ∃ k < n, (e.video.framePos + k) % 70224 + 1 = m := by
  induction n with
  | zero => simp
  | succ n ih =>
    rw [Function.iterate_succ_apply', hdot (dots_inv vram oam h n), ih, dots_framePos vram oam h, or_assoc,
      Nat.exists_lt_succ_right]

/-! ## An M-cycle -/

variable {v : Video}

/-- With the display on an M-cycle is four dots (62_video.md R511). -/
theorem videoTick_on (h : v.lcdc.getLsbD 7 = true) : videoTick vram oam v = (videoDot vram oam)^[4] ⟨v, 0, []⟩ :=
  if_pos h

/-- With the display off the unit is frozen and silent (62_video.md R534). -/
theorem videoTick_off (h : v.lcdc.getLsbD 7 = false) : videoTick vram oam v = ⟨v, 0, []⟩ :=
  if_neg (Bool.eq_false_iff.1 h)

/-- IF bits 0 and 1 are the video unit's alone. -/
theorem tick_videoRequest (s : State) {k : Nat} (hk : k < 2) :
    (tick s).ifl.getLsbD k = (s.ifl.getLsbD k || (videoTick s.vram s.oam s.video).irq.getLsbD k) := by
  have htimer : decide (k = 2) = false := decide_eq_false (by omega)
  have hjoypad : decide (k = 4) = false := decide_eq_false (by omega)
  simp only [tick_ifl_eq, BitVec.getLsbD_or, timerIrq_bit, joypadIrq_bit, htimer, hjoypad, Bool.false_and,
    Bool.or_false]

/-- Settles O53: four dots, each one position on, or the frozen unit. -/
theorem framePosition : Obligations.FramePosition := by
  intro s h
  constructor
  · intro hon
    rw [tick_video, videoTick_on _ _ hon]
    exact dots_framePos s.vram s.oam (e := ⟨s.video, 0, []⟩) h 4
  · intro hoff
    have hfrozen := videoTick_off s.vram s.oam hoff
    have hrequest : ∀ k < 2, (tick s).ifl.getLsbD k = s.ifl.getLsbD k := fun k hk => by
      rw [tick_videoRequest s hk, hfrozen]
      simp
    exact ⟨by rw [tick_video, hfrozen], hrequest 0 (by decide), hrequest 1 (by decide)⟩

/-- A run of four dots executes the dot before position `m` exactly when it starts at most four before it. -/
theorem exists_dot_before_iff {p m : Nat} (hp : p < 70224) (hm : 4 ≤ m) (hm2 : m ≤ 70224) :
    (∃ k < 4, (p + k) % 70224 + 1 = m) ↔ p < m ∧ m ≤ p + 4 := by
  constructor
  · rintro ⟨k, hk, hpos⟩
    omega
  · rintro ⟨hlt, hle⟩
    exact ⟨m - 1 - p, by omega, by omega⟩

/-- Settles O54: both events are made by one dot of the frame each, and the M-cycle executes four. -/
theorem vBlankOnce : Obligations.VBlankOnce := by
  intro vram oam v h hon e
  have hpos := h.framePos_lt
  have he : e = (videoDot vram oam)^[4] ⟨v, 0, []⟩ := videoTick_on vram oam hon
  have hvblank := dots_event vram oam (P := fun e => e.irq.getLsbD 0 = true) (videoDot_vblank vram oam)
    (e := ⟨v, 0, []⟩) h 4
  have hframe := dots_event vram oam (P := fun e => OutEvent.frameComplete ∈ e.calls)
    (videoDot_frameComplete vram oam) (e := ⟨v, 0, []⟩) h 4
  rw [exists_dot_before_iff hpos (by decide) (by decide)] at hvblank hframe
  rw [he, hvblank, hframe]
  exact ⟨by simp, by simp [hpos]⟩

end Sys2Proof.Machine
end

section
/-! PROOF. The audio unit off, and a channel with its DAC off (spec/63_audio.md R572, R573, R585, R603, R613). -/

namespace Sys2Proof.Machine

variable {s : State}

/-! ## A silent channel's level -/

theorem Square.level_of_inactive {q : Square} (h : q.active = false) : q.level = 0 :=
  if_neg fun hlevel => Bool.eq_false_iff.1 h hlevel.1

theorem Wave.level_of_inactive {w : Wave} (h : w.active = false) : w.level = 0 :=
  if_neg fun hlevel => Bool.eq_false_iff.1 h hlevel.1

theorem Noise.level_of_inactive {n : Noise} (h : n.active = false) : n.level = 0 :=
  if_neg fun hlevel => Bool.eq_false_iff.1 h hlevel.1

/-! ## The unit off -/

theorem audioWrite_of_off (h : s.audio.on = false) (f : Audio → Audio) : audioWrite f s = s := by
  rw [audioWrite_eq, if_neg (Bool.eq_false_iff.1 h)]

/-- What 0xFF10 to 0xFF25 hold: the registers under the master enable, and two unused bytes (63_audio.md R571,
R573). -/
def IoReg.underMasterEnable : IoReg → Bool
  | .nr10 | .nr11 | .nr12 | .nr13 | .nr14 | .nr21 | .nr22 | .nr23 | .nr24 | .nr30 | .nr31 | .nr32 | .nr33 | .nr34
  | .nr41 | .nr42 | .nr43 | .nr44 | .nr50 | .nr51 | .unused => true
  | _ => false

theorem ioRegOf_underMasterEnable {n : Nat} (h : 0x10 ≤ n) (h2 : n ≤ 0x25) :
    (ioRegOf n).underMasterEnable = true := by
  interval_cases n <;> rfl

/-- While the unit is off such a write is dropped (63_audio.md R573). -/
theorem ioWrite_of_off (hoff : s.audio.on = false) {r : IoReg} (hr : r.underMasterEnable = true) (v : Byte) :
    ioWrite s r v = s := by
  cases r with
  | unused => rfl
  | nr10 | nr11 | nr12 | nr13 | nr14 | nr21 | nr22 | nr23 | nr24 | nr30 | nr31 | nr32 | nr33 | nr34 | nr41 | nr42
  | nr43 | nr44 | nr50 | nr51 => rw [ioWrite, audioWrite_of_off hoff]
  | _ => cases hr

/-- Settles O56: the write is dropped by its register, lands by the wave table's map, and an inactive channel has
level 0. -/
theorem audioOff : Obligations.AudioOff := by
  intro s a v hoff
  refine ⟨fun h h2 => ?_, fun h h2 => ?_, fun hinv => ?_⟩
  · have hreg := regionOf_ioRange (a := a) (by omega) (by omega)
    rw [(State.maps_io hreg).2 v]
    exact ioWrite_of_off hoff (ioRegOf_underMasterEnable (by omega) (by omega)) v
  · have haddr : a = BitVec.ofNat 16 (0xFF30 + (a.toNat - 0xFF30)) := by
      rw [Nat.add_sub_of_le h, BitVec.ofNat_toNat, BitVec.setWidth_eq]
    have hwrite := (s.waveRegs.table (a.toNat - 0xFF30) (by omega)).2 v
    rw [← haddr] at hwrite
    rw [hwrite]
    exact Memory.read_write_self _ _ _
  · obtain ⟨h1, h2, h3, h4⟩ := hinv.off_silent hoff
    exact ⟨Square.level_of_inactive h1, Square.level_of_inactive h2, Wave.level_of_inactive h3,
      Noise.level_of_inactive h4⟩

/-! ## A DAC switched off

A channel is muted when it is inactive and its DAC is off: a trigger copies the DAC into the active flag, so it cannot
start the channel again. -/

structure Square.Muted (q : Square) : Prop where
  inactive : q.active = false
  dac_off : q.dac = false

structure Wave.Muted (w : Wave) : Prop where
  inactive : w.active = false
  dac_off : w.dac = false

structure Noise.Muted (n : Noise) : Prop where
  inactive : n.active = false
  dac_off : n.dac = false

theorem Square.Muted.afterControl {q : Square} (h : q.Muted) (v : Byte) : (q.afterControl v).Muted := by
  unfold Square.afterControl
  split
  · exact ⟨h.dac_off, h.dac_off⟩
  · exact ⟨h.inactive, h.dac_off⟩

theorem Wave.Muted.afterControl {w : Wave} (h : w.Muted) (v : Byte) : (w.afterControl v).Muted := by
  unfold Wave.afterControl
  split
  · exact ⟨h.dac_off, h.dac_off⟩
  · exact ⟨h.inactive, h.dac_off⟩

theorem Noise.Muted.afterControl {n : Noise} (h : n.Muted) (v : Byte) : (n.afterControl v).Muted := by
  unfold Noise.afterControl
  split
  · exact ⟨h.dac_off, h.dac_off⟩
  · exact ⟨h.inactive, h.dac_off⟩

/-- The sweep started by a trigger can only switch channel 1 off (63_audio.md R591). -/
theorem Square.Muted.sweepTrigger {q : Square} (h : q.Muted) (w : Sweep) : (Machine.sweepTrigger w q).2.Muted :=
  ⟨Bool.and_eq_false_iff.2 (.inl h.inactive), h.dac_off⟩

theorem writeNr14_muted {a : Audio} (h : a.ch1.Muted) (v : Byte) : (writeNr14 v a).ch1.Muted := by
  cases h7 : v.getLsbD 7
  · rw [writeNr14_of_no_trigger h7]
    exact h.afterControl v
  · rw [writeNr14_of_trigger h7]
    exact (h.afterControl v).sweepTrigger _

/-- Zero volume and no ascent switch a DAC off (63_audio.md R585). -/
theorem volume_lt_of_dacBits_clear {v : Byte} (h : v &&& 0xF8 = 0) : decide (8 ≤ v.toNat) = false := by
  rw [← dacOf_eq, dacOf, h]
  rfl

theorem State.MapsAudio.write_on {a : Word} {r : Byte} {f : Byte → Audio} (h : s.MapsAudio a r f)
    (hon : s.audio.on = true) (v : Byte) : busWrite s a v = { s with audio := f v } :=
  (h.2 v).trans (if_pos hon)

theorem busWrite_nr14_on (hon : s.audio.on = true) (v : Byte) :
    busWrite s 0xFF14 v = { s with audio := writeNr14 v s.audio } :=
  (s.mapsAudioAt 0x14 .nr14 (f := fun v => writeNr14 v s.audio) rfl fun _ => rfl).write_on hon v

/-! Each control register keeps its channel muted, whether the write triggers or not (63_audio.md R586, R603). -/

theorem busWrite_nr14_muted (hon : s.audio.on = true) (h : s.audio.ch1.Muted) (v : Byte) :
    (busWrite s 0xFF14 v).audio.ch1.Muted := by
  rw [busWrite_nr14_on hon]
  exact writeNr14_muted h v

theorem busWrite_nr24_muted (hon : s.audio.on = true) (h : s.audio.ch2.Muted) (v : Byte) :
    (busWrite s 0xFF19 v).audio.ch2.Muted := by
  rw [s.toneRegs.nr24.write_on hon]
  exact h.afterControl v

theorem busWrite_nr34_muted (hon : s.audio.on = true) (h : s.audio.ch3.Muted) (v : Byte) :
    (busWrite s 0xFF1E v).audio.ch3.Muted := by
  rw [s.waveRegs.nr34.write_on hon]
  exact h.afterControl v

theorem busWrite_nr44_muted (hon : s.audio.on = true) (h : s.audio.ch4.Muted) (v : Byte) :
    (busWrite s 0xFF23 v).audio.ch4.Muted := by
  rw [s.noiseRegs.nr44.write_on hon]
  exact h.afterControl v

/-- Settles O57: the volume register or NR30 mutes the channel, and its control register keeps it muted. -/
theorem dacSilence : Obligations.DacSilence := by
  intro s v w hon
  refine ⟨fun hv => ?_, fun hdac => ?_⟩
  · have hdac := volume_lt_of_dacBits_clear hv
    refine ⟨?_, ?_, ?_⟩
    · rw [s.sweepRegs.nr12.write_on hon v]
      intro t u
      have ht : t.audio.ch1.Muted := ⟨Bool.and_eq_false_iff.2 (.inr hdac), hdac⟩
      have hu : u.audio.ch1.Muted := busWrite_nr14_muted (s := t) hon ht w
      exact ⟨ht.inactive, Square.level_of_inactive ht.inactive, hu.inactive, Square.level_of_inactive hu.inactive⟩
    · rw [s.toneRegs.nr22.write_on hon v]
      intro t u
      have ht : t.audio.ch2.Muted := ⟨Bool.and_eq_false_iff.2 (.inr hdac), hdac⟩
      have hu : u.audio.ch2.Muted := busWrite_nr24_muted (s := t) hon ht w
      exact ⟨ht.inactive, Square.level_of_inactive ht.inactive, hu.inactive, Square.level_of_inactive hu.inactive⟩
    · rw [s.noiseRegs.nr42.write_on hon v]
      intro t u
      have ht : t.audio.ch4.Muted := ⟨Bool.and_eq_false_iff.2 (.inr hdac), hdac⟩
      have hu : u.audio.ch4.Muted := busWrite_nr44_muted (s := t) hon ht w
      exact ⟨ht.inactive, Noise.level_of_inactive ht.inactive, hu.inactive, Noise.level_of_inactive hu.inactive⟩
  · rw [s.waveRegs.nr30.write_on hon v]
    intro t u
    have ht : t.audio.ch3.Muted := ⟨Bool.and_eq_false_iff.2 (.inr hdac), hdac⟩
    have hu : u.audio.ch3.Muted := busWrite_nr34_muted (s := t) hon ht w
    exact ⟨ht.inactive, Wave.level_of_inactive ht.inactive, hu.inactive, Wave.level_of_inactive hu.inactive⟩

end Sys2Proof.Machine
end
